-- ==== Sys2Proof/Word.lean ====
section
/-! DEFINITION. The value types of DBCAP: bytes, samples, angles, accumulators, the two axes, one
frame of four samples (spec/00_scope.md R6, R13; spec/10_state.md R21 to R23). -/

namespace Sys2Proof

/-- One byte of the link (20_memory R60). -/
abbrev Byte := BitVec 8

/-- One sample: 16 bits, read as signed two's complement (00_scope R6 `SAMPLE_BITS`). -/
abbrev Sample := BitVec 16

/-- One angle or pulse register: 32 bits, read as signed (10_state R23). -/
abbrev Angle := BitVec 32

/-- One accumulator, of `CORR` or `DMX.SUM`: 64 bits, read as signed (00_scope R6 `ACC_BITS`). -/
abbrev Acc := BitVec 64

/-- The two servo axes (10_state R23). -/
inductive Axis where
  | pan
  | tilt
deriving DecidableEq, Repr

/-- One value for each axis. -/
structure PerAxis (α : Type) where
  pan : α
  tilt : α
deriving DecidableEq, Repr

/-- Read the value of one axis. -/
def PerAxis.get {α : Type} (p : PerAxis α) : Axis → α
  | .pan => p.pan
  | .tilt => p.tilt

/-- Replace the value of one axis; the other is untouched (44_servo R195). -/
def PerAxis.set {α : Type} (p : PerAxis α) (a : Axis) (v : α) : PerAxis α :=
  match a with
  | .pan => { p with pan := v }
  | .tilt => { p with tilt := v }

/-- One SampleFrame: the readings of the four microphones at one tick (00_scope R13). -/
structure Frame where
  c0 : Sample
  c1 : Sample
  c2 : Sample
  c3 : Sample
deriving DecidableEq, Repr

/-- The reading of channel `c`. -/
def Frame.get (f : Frame) (c : Fin 4) : Sample :=
  match c with
  | 0 => f.c0
  | 1 => f.c1
  | 2 => f.c2
  | 3 => f.c3

end Sys2Proof
end

