-- ==== Sys2Proof/Config.lean ====
section
/-! DEFINITION. The implementation parameters of DBCAP (spec/00_scope.md R6; CR14 to CR27 of
spec/10_state.md R26), the configuration the reset state carries, and the model's one free value. -/

namespace Sys2Proof

/-- The configuration constants of 00_scope R6. The fixed ones (`N_CH` = 4, `SAMPLE_BITS` = 16,
`ACC_BITS` = 64) are in the types of Word.lean. Angles and pulses are signed 32-bit registers
(10_state R23, R26; DEDUCED for `SERVO_MAX` and `SERVO_INIT`, log 13); counts are numbers. -/
structure Config where
  /-- CR14 `SIGNAL_LEN`: frames per batch. -/
  signalLen : Nat
  /-- CR15 `XCORR_LEN`: length of the correlation buffer. -/
  xcorrLen : Nat
  /-- CR16 `T_S_US`: sample period in microseconds. -/
  tSUs : Nat
  /-- CR17 `D_MICS_MM`: microphone spacing in millimetres. -/
  dMicsMm : Nat
  /-- CR18 `V_SOUND`: speed of sound in metres per second. -/
  vSound : Nat
  /-- CR19 `K`: lag table length. -/
  k : Nat
  /-- CR20 `N_RX`: capacity of the receive accumulator, the delimiter included. -/
  nRx : Nat
  /-- CR21 `SERVO_MAX[a]`: travel limit in degrees. -/
  servoMax : PerAxis Angle
  /-- CR22 `PULSE_0[a]`: pulse width at 0 degrees. -/
  pulse0 : PerAxis Angle
  /-- CR22 `PULSE_MAX[a]`: pulse width at the travel limit. -/
  pulseMax : PerAxis Angle
  /-- CR23 `SERVO_INIT[a]`: angle after reset. -/
  servoInit : PerAxis Angle
  /-- CR24 `PAIR_PAN`: the channels correlated for the pan axis. -/
  pairPan : Fin 4 × Fin 4
  /-- CR24 `PAIR_TILT`: the channels correlated for the tilt axis. -/
  pairTilt : Fin 4 × Fin 4
  /-- CR24 `DOA_SIGN[a]`: sign of the bearing-to-offset map. -/
  doaSign : PerAxis Int
  /-- CR25 `TXQ_REPLY_CAP`: capacity of the reply queue. -/
  txqReplyCap : Nat
  /-- CR25 `TXQ_SAMPLES_CAP`: capacity of the sample queue. -/
  txqSamplesCap : Nat
  /-- CR25 `CMDQ_CAP`: capacity of the command queue. -/
  cmdqCap : Nat
  /-- CR26 `PAUSE_FOR_DOA`. -/
  pauseForDoa : Bool
  /-- CR27 `SEND_SAMPLES`. -/
  sendSamples : Bool
deriving DecidableEq, Repr

/-- The channel pair of an axis: `PAIR_PAN` or `PAIR_TILT` (46_tasks R257). -/
def Config.pair (c : Config) : Axis → Fin 4 × Fin 4
  | .pan => c.pairPan
  | .tilt => c.pairTilt

/-- The configuration `State.reset` carries. DESIGN CHOICE (unsafe, log 1): the spec leaves most of
these OPEN; the values are those of the spec's own programs P1 and P5 (95_test_vectors part 3), with
the default geometry and the default servo of that file. No rule of the model mentions this constant:
every operation reads the configuration of the state it runs in. -/
def Config.default : Config where
  signalLen := 2
  xcorrLen := 3
  tSUs := 74
  dMicsMm := 125
  vSound := 343
  k := 9
  nRx := 16
  servoMax := ⟨180, 90⟩
  pulse0 := ⟨500, 600⟩
  pulseMax := ⟨2500, 2400⟩
  servoInit := ⟨90, 45⟩
  pairPan := (0, 1)
  pairTilt := (2, 3)
  doaSign := ⟨1, 1⟩
  txqReplyCap := 1
  txqSamplesCap := 1
  cmdqCap := 1
  pauseForDoa := false
  sendSamples := true

/-- FREE VALUE (log 5): whether the transmit-complete handler goes first at the n-th step at which
both level-2 handlers are pending and the schedule does not say (60_exceptions R283: "either may run
first, and a model leaves the choice open"). Nothing constrains it. -/
opaque Config.level2TxFirst : Nat → Bool

end Sys2Proof
end

