-- ==== Sys2Proof/Syntax.lean ====
section
/-! DEFINITION. The instruction set: the four wire Messages, the 32 named operations and the four text
commands of spec/opcode_table.json (spec/30_encoding.md R92 to R96, R110, R118), one constructor of
`Instr` each. Operands are typed values (R99). -/

namespace Sys2Proof

/-- The fields of a `Command` Message: each is present or absent (30_encoding R96). -/
structure Command where
  panDegrees : Option Angle
  tiltDegrees : Option Angle
  samplingEnabled : Option Bool
deriving DecidableEq, Repr

/-- The tagged union of Messages, in the order of their tags (30_encoding R92). -/
inductive Message where
  | sync
  | panTiltStatus (pan tilt : Angle)
  | samples (batch : List Frame)
  | command (cmd : Command)
deriving DecidableEq, Repr

/-- A batch operand: a value, or the batch buffer `BUF[b]` (40_capture R134 returns such a
reference; 41_demux R150). -/
inductive BatchRef where
  | values (frames : List Frame)
  | buffer (b : Fin 2)
deriving DecidableEq, Repr

/-- A channel series operand: a value, or one of `CH[0..3]` (42_xcorr R160: "in the block, two of
`CH[0..3]`"). -/
inductive SeriesRef where
  | values (xs : List Sample)
  | channel (c : Fin 4)
deriving DecidableEq, Repr

/-- The encodings of 30_encoding R90 in which an instruction can be given. Messages and operations
share the numbers 0 to 3, so the layer goes with the bytes (log 8). -/
inductive Layer where
  | payload
  | operation
  | text
deriving DecidableEq, Repr

/-- The instructions: one constructor per row of spec/opcode_table.json. -/
inductive Instr where
  -- the four Messages (R93 to R96)
  | sync
  | panTiltStatus (pan tilt : Angle)
  | samples (batch : List Frame)
  | command (cmd : Command)
  -- CAP (R131 to R135)
  | startSampling
  | stopSampling
  | tick (f : Frame)
  | getNewestBatch
  | releaseBatch
  -- DMX (R150)
  | fromBatch (batch : BatchRef)
  -- XC (R160, R163)
  | xcorrReal (x y : SeriesRef)
  | calcLag (x y : SeriesRef)
  -- ANG (R175, R179 to R181)
  | genLagTable
  | reduceLag (lag : Int)
  | lagToAngle (lag : Int)
  | calcAngle (chA chB : SeriesRef)
  -- SRV (R196, R198 to R200)
  | setGoal (a : Axis) (degrees : Angle)
  | addGoalOffset (a : Axis) (bearing : Byte)
  | step (a : Axis)
  | degToPulse (a : Axis) (degrees : Int)
  -- FRM (R216 to R220, R226, R230)
  | serialize (msg : Message)
  | deserialize (payload : List Byte)
  | stuff (payload : List Byte)
  | unstuff (body : List Byte)
  | encodeFrame (msg : Message)
  | feed (input : List Byte)
  | send (frame : List Byte)
  -- SEQ (R259, R260, R251 to R257, R261 to R263)
  | enqueueTx (msg : Message)
  | sendSync
  | hCaptureComplete
  | hRx
  | hTxComplete
  | tDoa
  | tCommand
  | tServoTick
  | tTransmit
  -- the text commands (R118)
  | textPan (deg : Angle)
  | textTilt (deg : Angle)
  | textStart
  | textStop
deriving DecidableEq, Repr

/-- The layer an instruction is encoded in (30_encoding R90). -/
def Instr.layer : Instr → Layer
  | .sync => .payload
  | .panTiltStatus _ _ => .payload
  | .samples _ => .payload
  | .command _ => .payload
  | .textPan _ => .text
  | .textTilt _ => .text
  | .textStart => .text
  | .textStop => .text
  | .startSampling => .operation
  | .stopSampling => .operation
  | .tick _ => .operation
  | .getNewestBatch => .operation
  | .releaseBatch => .operation
  | .fromBatch _ => .operation
  | .xcorrReal _ _ => .operation
  | .calcLag _ _ => .operation
  | .genLagTable => .operation
  | .reduceLag _ => .operation
  | .lagToAngle _ => .operation
  | .calcAngle _ _ => .operation
  | .setGoal _ _ => .operation
  | .addGoalOffset _ _ => .operation
  | .step _ => .operation
  | .degToPulse _ _ => .operation
  | .serialize _ => .operation
  | .deserialize _ => .operation
  | .stuff _ => .operation
  | .unstuff _ => .operation
  | .encodeFrame _ => .operation
  | .feed _ => .operation
  | .send _ => .operation
  | .enqueueTx _ => .operation
  | .sendSync => .operation
  | .hCaptureComplete => .operation
  | .hRx => .operation
  | .hTxComplete => .operation
  | .tDoa => .operation
  | .tCommand => .operation
  | .tServoTick => .operation
  | .tTransmit => .operation

end Sys2Proof
end

