-- ==== Sys2Proof/WellFormed.lean ====
section
/-! DEFINITION. Which instructions are well formed: the conditions the spec puts on operand values
beyond their types. `n` is `SIGNAL_LEN`. -/

namespace Sys2Proof

/-- A Message is well formed when its batch, if it has one, holds `SIGNAL_LEN` frames
(30_encoding R95). -/
def Message.wellFormed (n : Nat) : Message → Bool
  | .samples batch => batch.length == n
  | .sync => true
  | .panTiltStatus _ _ => true
  | .command _ => true

/-- A batch holds `SIGNAL_LEN` frames (41_demux R150). -/
def BatchRef.wellFormed (n : Nat) : BatchRef → Bool
  | .values frames => frames.length == n
  | .buffer _ => true

/-- A series holds `SIGNAL_LEN` samples (42_xcorr R160). -/
def SeriesRef.wellFormed (n : Nat) : SeriesRef → Bool
  | .values xs => xs.length == n
  | .channel _ => true

/-- The operand conditions of each rule: batch and series lengths; a bearing is 0..180 (44_servo
R199); the body given to `UNSTUFF` holds no `00` (45_framing R219); the frame given to `SEND` ends in
`00` (R230). -/
def Instr.wellFormed (n : Nat) : Instr → Bool
  | .samples batch => batch.length == n
  | .fromBatch b => b.wellFormed n
  | .xcorrReal x y => x.wellFormed n && y.wellFormed n
  | .calcLag x y => x.wellFormed n && y.wellFormed n
  | .calcAngle x y => x.wellFormed n && y.wellFormed n
  | .addGoalOffset _ bearing => decide (bearing.toNat ≤ 180)
  | .serialize m => m.wellFormed n
  | .encodeFrame m => m.wellFormed n
  | .enqueueTx m => m.wellFormed n
  | .unstuff body => body.all (· != 0)
  | .send frame => frame.getLast? == some 0
  | .sync => true
  | .panTiltStatus _ _ => true
  | .command _ => true
  | .startSampling => true
  | .stopSampling => true
  | .tick _ => true
  | .getNewestBatch => true
  | .releaseBatch => true
  | .genLagTable => true
  | .reduceLag _ => true
  | .lagToAngle _ => true
  | .setGoal _ _ => true
  | .step _ => true
  | .degToPulse _ _ => true
  | .deserialize _ => true
  | .stuff _ => true
  | .feed _ => true
  | .sendSync => true
  | .hCaptureComplete => true
  | .hRx => true
  | .hTxComplete => true
  | .tDoa => true
  | .tCommand => true
  | .tServoTick => true
  | .tTransmit => true
  | .textPan _ => true
  | .textTilt _ => true
  | .textStart => true
  | .textStop => true

end Sys2Proof
end

