-- ==== Sys2Proof/Decode.lean ====
section
/-! DEFINITION. The encodings: the wire form of integers and Messages (spec/20_memory.md R61, R62;
spec/30_encoding.md R92 to R100, R105; `SERIALIZE` and `DESERIALIZE` of spec/45_framing.md R216, R217),
the decoder of the three layers, total on any bytes and rejecting by name, and the encoder. The bytes
of a Message are the spec's. The operand bytes of a directly invoked operation are the model's own
(R99: operands "are typed values"; DESIGN CHOICE, log 7). -/

namespace Sys2Proof

/-- Why bytes are not an instruction. -/
inductive DecodeError where
  /-- No byte at all (R105: "it is empty"). -/
  | empty
  /-- A tag byte `04..FF` (R105). -/
  | reservedTag
  /-- Shorter or longer than the tag, the flags or the operands imply (R100, R105). -/
  | wrongLength
  /-- A presence or boolean byte `02..FF` (R98, R105). -/
  | badFlag
  /-- A number R110 does not assign: "Numbers not in the table are unassigned." -/
  | unassignedNumber
  /-- An operand byte outside the operand's range. -/
  | badOperand
  /-- A `Command` payload that no text command expands to (R118). -/
  | notATextCommand
deriving DecidableEq, Repr

/-! ### Integers on the wire (R61, R97) -/

/-- `le16(v)`: two bytes, least significant first. -/
def le16 (v : BitVec 16) : List Byte :=
  [v.extractLsb' 0 8, v.extractLsb' 8 8]

/-- `le32(v)`: four bytes, least significant first. -/
def le32 (v : BitVec 32) : List Byte :=
  [v.extractLsb' 0 8, v.extractLsb' 8 8, v.extractLsb' 16 8, v.extractLsb' 24 8]

/-- `from_le16`: the value of two bytes in wire order. -/
def fromLe16 (b0 b1 : Byte) : BitVec 16 := b1 ++ b0

/-- `from_le32`: the value of four bytes in wire order. -/
def fromLe32 (b0 b1 b2 b3 : Byte) : BitVec 32 := b3 ++ b2 ++ b1 ++ b0

/-! ### Batches and series -/

/-- One frame on the wire: its four samples in channel order (R62). -/
def frameBytes (f : Frame) : List Byte :=
  le16 f.c0 ++ le16 f.c1 ++ le16 f.c2 ++ le16 f.c3

/-- A batch on the wire: its frames in order (R62, R95). -/
def batchBytes (batch : List Frame) : List Byte :=
  batch.flatMap frameBytes

/-- Read `n` frames from the front of the bytes. -/
def takeFrames : Nat → List Byte → Except DecodeError (List Frame × List Byte)
  | 0, bs => .ok ([], bs)
  | n + 1, a0 :: a1 :: b0 :: b1 :: c0 :: c1 :: d0 :: d1 :: bs =>
    match takeFrames n bs with
    | .ok (fs, rest) =>
      .ok (⟨fromLe16 a0 a1, fromLe16 b0 b1, fromLe16 c0 c1, fromLe16 d0 d1⟩ :: fs, rest)
    | .error e => .error e
  | _ + 1, _ => .error .wrongLength

/-- The samples of a series operand, each as `le16`. -/
def seriesBytes (xs : List Sample) : List Byte :=
  xs.flatMap le16

/-- Read `n` samples from the front of the bytes. -/
def takeSamples : Nat → List Byte → Except DecodeError (List Sample × List Byte)
  | 0, bs => .ok ([], bs)
  | n + 1, a0 :: a1 :: bs =>
    match takeSamples n bs with
    | .ok (xs, rest) => .ok (fromLe16 a0 a1 :: xs, rest)
    | .error e => .error e
  | _ + 1, _ => .error .wrongLength

/-! ### Messages (R92 to R96, R216, R217) -/

/-- `opt32`: a presence byte, then the value if present (R216). -/
def opt32 : Option Angle → List Byte
  | none => [0x00]
  | some v => 0x01 :: le32 v

/-- `optbool`: a presence byte, then the boolean byte if present (R216). -/
def optbool : Option Bool → List Byte
  | none => [0x00]
  | some b => [0x01, if b then 0x01 else 0x00]

/-- `SERIALIZE(msg)` (45_framing R216): the payload of a Message. -/
def serialize : Message → List Byte
  | .sync => [0x00]
  | .panTiltStatus pan tilt => 0x01 :: (le32 pan ++ le32 tilt)
  | .samples batch => 0x02 :: batchBytes batch
  | .command c =>
    0x03 :: (opt32 c.panDegrees ++ opt32 c.tiltDegrees ++ optbool c.samplingEnabled)

/-- `take_opt32` (R217). -/
def takeOpt32 : List Byte → Except DecodeError (Option Angle × List Byte)
  | [] => .error .wrongLength
  | p :: bs =>
    if p = 0x00 then .ok (none, bs)
    else if p = 0x01 then
      match bs with
      | b0 :: b1 :: b2 :: b3 :: rest => .ok (some (fromLe32 b0 b1 b2 b3), rest)
      | _ => .error .wrongLength
    else .error .badFlag

/-- `take_optbool` (R217). -/
def takeOptbool : List Byte → Except DecodeError (Option Bool × List Byte)
  | [] => .error .wrongLength
  | p :: bs =>
    if p = 0x00 then .ok (none, bs)
    else if p = 0x01 then
      match bs with
      | [] => .error .wrongLength
      | b :: rest =>
        if b = 0x00 then .ok (some false, rest)
        else if b = 0x01 then .ok (some true, rest)
        else .error .badFlag
    else .error .badFlag

/-- The fields of a `Command` after its tag; nothing may be left over (R217). -/
def takeCommand (bs : List Byte) : Except DecodeError Command :=
  match takeOpt32 bs with
  | .error e => .error e
  | .ok (pan, bs) =>
    match takeOpt32 bs with
    | .error e => .error e
    | .ok (tilt, bs) =>
      match takeOptbool bs with
      | .error e => .error e
      | .ok (en, []) => .ok ⟨pan, tilt, en⟩
      | .ok (_, _ :: _) => .error .wrongLength

/-- `DESERIALIZE(payload)` (45_framing R217): strict, `n` is `SIGNAL_LEN`. An error is the condition
`DeserError`; which of the cases of R105 it was is kept by name. -/
def deserialize (n : Nat) : List Byte → Except DecodeError Message
  | [] => .error .empty
  | tag :: bs =>
    if tag = 0x00 then
      match bs with
      | [] => .ok .sync
      | _ :: _ => .error .wrongLength
    else if tag = 0x01 then
      match bs with
      | [p0, p1, p2, p3, t0, t1, t2, t3] =>
        .ok (.panTiltStatus (fromLe32 p0 p1 p2 p3) (fromLe32 t0 t1 t2 t3))
      | _ => .error .wrongLength
    else if tag = 0x02 then
      match takeFrames n bs with
      | .ok (batch, []) => .ok (.samples batch)
      | .ok (_, _ :: _) => .error .wrongLength
      | .error e => .error e
    else if tag = 0x03 then
      match takeCommand bs with
      | .ok c => .ok (.command c)
      | .error e => .error e
    else .error .reservedTag

/-! ### The payload layer and the text layer -/

/-- The instruction a Message is, at the payload layer (R111). -/
def Message.instr : Message → Instr
  | .sync => .sync
  | .panTiltStatus pan tilt => .panTiltStatus pan tilt
  | .samples batch => .samples batch
  | .command c => .command c

/-- The text command that expands to this `Command`, if one does (R118: "No text command produces a
`Command` with more than one field present"). -/
def textOfCommand : Command → Except DecodeError Instr
  | ⟨some deg, none, none⟩ => .ok (.textPan deg)
  | ⟨none, some deg, none⟩ => .ok (.textTilt deg)
  | ⟨none, none, some true⟩ => .ok .textStart
  | ⟨none, none, some false⟩ => .ok .textStop
  | _ => .error .notATextCommand

/-- A text command is decoded from the payload it expands to (R118). -/
def decodeText (bs : List Byte) : Except DecodeError Instr :=
  match bs with
  | [] => .error .empty
  | tag :: rest =>
    if tag = 0x03 then
      match takeCommand rest with
      | .ok c => textOfCommand c
      | .error e => .error e
    else .error .notATextCommand

/-! ### The operation layer: the number of R110, then the operand bytes (log 7) -/

/-- Nothing may follow. -/
def noMore (i : Instr) : List Byte → Except DecodeError Instr
  | [] => .ok i
  | _ :: _ => .error .wrongLength

/-- An axis operand: `00` pan, `01` tilt. -/
def axisByte : Axis → Byte
  | .pan => 0x00
  | .tilt => 0x01

/-- Read an axis operand. -/
def takeAxis : List Byte → Except DecodeError (Axis × List Byte)
  | [] => .error .wrongLength
  | b :: bs =>
    if b = 0x00 then .ok (.pan, bs)
    else if b = 0x01 then .ok (.tilt, bs)
    else .error .badOperand

/-- The bytes of a natural number, least significant first, without a closing `00`; the first number
bounds how many. -/
def natBytesUpTo : Nat → Nat → List Byte
  | 0, _ => []
  | k + 1, v => if v = 0 then [] else BitVec.ofNat 8 v :: natBytesUpTo k (v / 256)

/-- The natural number of bytes in that order. -/
def ofNatBytes : List Byte → Nat
  | [] => 0
  | b :: bs => b.toNat + 256 * ofNatBytes bs

/-- An integer operand that ends the instruction: `00`, or `01` for a negative number, then the bytes
of its absolute value. -/
def intBytes (v : Int) : List Byte :=
  (if v < 0 then 0x01 else 0x00) :: natBytesUpTo v.natAbs v.natAbs

/-- Read an integer operand that ends the instruction; each integer has one form. -/
def lastInt : List Byte → Except DecodeError Int
  | [] => .error .wrongLength
  | sign :: magnitude =>
    if magnitude.getLast? = some 0x00 then .error .badOperand
    else if sign = 0x00 then .ok (ofNatBytes magnitude : Int)
    else if sign = 0x01 ∧ magnitude ≠ [] then .ok (-(ofNatBytes magnitude : Int))
    else .error .badOperand

/-- Read a 32-bit operand that ends the instruction. -/
def lastWord : List Byte → Except DecodeError (BitVec 32)
  | [b0, b1, b2, b3] => .ok (fromLe32 b0 b1 b2 b3)
  | _ => .error .wrongLength

/-- A batch operand: `00` then the frames, or `01`, `02` for `BUF[0]`, `BUF[1]`. -/
def batchRefBytes : BatchRef → List Byte
  | .values frames => 0x00 :: batchBytes frames
  | .buffer b => [if b = 0 then 0x01 else 0x02]

/-- Read a batch operand. -/
def takeBatchRef (n : Nat) : List Byte → Except DecodeError (BatchRef × List Byte)
  | [] => .error .wrongLength
  | f :: bs =>
    if f = 0x00 then
      match takeFrames n bs with
      | .ok (frames, rest) => .ok (.values frames, rest)
      | .error e => .error e
    else if f = 0x01 then .ok (.buffer 0, bs)
    else if f = 0x02 then .ok (.buffer 1, bs)
    else .error .badOperand

/-- A series operand: `00` then the samples, or `01` to `04` for `CH[0]` to `CH[3]`. -/
def seriesRefBytes : SeriesRef → List Byte
  | .values xs => 0x00 :: seriesBytes xs
  | .channel c => [BitVec.ofNat 8 (c.val + 1)]

/-- Read a series operand. -/
def takeSeriesRef (n : Nat) : List Byte → Except DecodeError (SeriesRef × List Byte)
  | [] => .error .wrongLength
  | f :: bs =>
    if f = 0x00 then
      match takeSamples n bs with
      | .ok (xs, rest) => .ok (.values xs, rest)
      | .error e => .error e
    else if f = 0x01 then .ok (.channel 0, bs)
    else if f = 0x02 then .ok (.channel 1, bs)
    else if f = 0x03 then .ok (.channel 2, bs)
    else if f = 0x04 then .ok (.channel 3, bs)
    else .error .badOperand

/-- Two series operands that end the instruction. -/
def twoSeries (n : Nat) (make : SeriesRef → SeriesRef → Instr) (bs : List Byte) :
    Except DecodeError Instr :=
  match takeSeriesRef n bs with
  | .error e => .error e
  | .ok (x, bs) =>
    match takeSeriesRef n bs with
    | .error e => .error e
    | .ok (y, rest) => noMore (make x y) rest

/-- An axis and a 32-bit operand that end the instruction. -/
def axisWord (make : Axis → BitVec 32 → Instr) (bs : List Byte) : Except DecodeError Instr :=
  match takeAxis bs with
  | .error e => .error e
  | .ok (a, bs) =>
    match lastWord bs with
    | .error e => .error e
    | .ok w => .ok (make a w)

/-- An integer operand that ends the instruction. -/
def oneInt (make : Int → Instr) (bs : List Byte) : Except DecodeError Instr :=
  match lastInt bs with
  | .error e => .error e
  | .ok v => .ok (make v)

/-- An axis and an integer operand that end the instruction. -/
def axisInt (make : Axis → Int → Instr) (bs : List Byte) : Except DecodeError Instr :=
  match takeAxis bs with
  | .error e => .error e
  | .ok (a, bs) => oneInt (make a) bs

/-- A Message operand, in its wire form, that ends the instruction. -/
def messageOperand (n : Nat) (make : Message → Instr) (bs : List Byte) :
    Except DecodeError Instr :=
  match deserialize n bs with
  | .error e => .error e
  | .ok m => .ok (make m)

/-- The operand bytes of an operation, after its number (R110). -/
def decodeOperation (n : Nat) (number : Nat) (bs : List Byte) : Except DecodeError Instr :=
  match number with
  | 0x00 => noMore .startSampling bs
  | 0x01 => noMore .stopSampling bs
  | 0x02 =>
    match takeFrames 1 bs with
    | .ok ([f], []) => .ok (.tick f)
    | _ => .error .wrongLength
  | 0x03 => noMore .getNewestBatch bs
  | 0x04 => noMore .releaseBatch bs
  | 0x10 =>
    match takeBatchRef n bs with
    | .error e => .error e
    | .ok (b, rest) => noMore (.fromBatch b) rest
  | 0x20 => twoSeries n .xcorrReal bs
  | 0x21 => twoSeries n .calcLag bs
  | 0x30 => noMore .genLagTable bs
  | 0x31 => oneInt .reduceLag bs
  | 0x32 => oneInt .lagToAngle bs
  | 0x33 => twoSeries n .calcAngle bs
  | 0x40 => axisWord .setGoal bs
  | 0x41 =>
    match takeAxis bs with
    | .error e => .error e
    | .ok (a, [bearing]) =>
      if bearing.toNat ≤ 180 then .ok (.addGoalOffset a bearing) else .error .badOperand
    | .ok _ => .error .wrongLength
  | 0x42 =>
    match takeAxis bs with
    | .error e => .error e
    | .ok (a, rest) => noMore (.step a) rest
  | 0x43 => axisInt .degToPulse bs
  | 0x50 => messageOperand n .serialize bs
  | 0x51 => .ok (.deserialize bs)
  | 0x52 => .ok (.stuff bs)
  | 0x53 => if bs.all (· != 0) then .ok (.unstuff bs) else .error .badOperand
  | 0x54 => messageOperand n .encodeFrame bs
  | 0x55 => .ok (.feed bs)
  | 0x56 => .ok (.send (bs ++ [0x00]))
  | 0x57 => messageOperand n .enqueueTx bs
  | 0x58 => noMore .sendSync bs
  | 0x60 => noMore .hCaptureComplete bs
  | 0x61 => noMore .hRx bs
  | 0x62 => noMore .hTxComplete bs
  | 0x63 => noMore .tDoa bs
  | 0x64 => noMore .tCommand bs
  | 0x65 => noMore .tServoTick bs
  | 0x66 => noMore .tTransmit bs
  | _ => .error .unassignedNumber

/-! ### The decoder -/

/-- The instruction the bytes of a layer stand for; all the bytes belong to it. `n` is
`SIGNAL_LEN`. -/
def decode (n : Nat) (l : Layer) (bs : List Byte) : Except DecodeError Instr :=
  match l with
  | .payload =>
    match deserialize n bs with
    | .ok m => .ok m.instr
    | .error e => .error e
  | .operation =>
    match bs with
    | [] => .error .empty
    | number :: rest => decodeOperation n number.toNat rest
  | .text => decodeText bs

/-! ### The encoder -/

/-- The bytes of an instruction, in its layer (`Instr.layer`). -/
def encode : Instr → List Byte
  | .sync => serialize .sync
  | .panTiltStatus pan tilt => serialize (.panTiltStatus pan tilt)
  | .samples batch => serialize (.samples batch)
  | .command c => serialize (.command c)
  | .startSampling => [0x00]
  | .stopSampling => [0x01]
  | .tick f => 0x02 :: frameBytes f
  | .getNewestBatch => [0x03]
  | .releaseBatch => [0x04]
  | .fromBatch b => 0x10 :: batchRefBytes b
  | .xcorrReal x y => 0x20 :: (seriesRefBytes x ++ seriesRefBytes y)
  | .calcLag x y => 0x21 :: (seriesRefBytes x ++ seriesRefBytes y)
  | .genLagTable => [0x30]
  | .reduceLag lag => 0x31 :: intBytes lag
  | .lagToAngle lag => 0x32 :: intBytes lag
  | .calcAngle x y => 0x33 :: (seriesRefBytes x ++ seriesRefBytes y)
  | .setGoal a degrees => 0x40 :: axisByte a :: le32 degrees
  | .addGoalOffset a bearing => [0x41, axisByte a, bearing]
  | .step a => [0x42, axisByte a]
  | .degToPulse a degrees => 0x43 :: axisByte a :: intBytes degrees
  | .serialize m => 0x50 :: serialize m
  | .deserialize payload => 0x51 :: payload
  | .stuff payload => 0x52 :: payload
  | .unstuff body => 0x53 :: body
  | .encodeFrame m => 0x54 :: serialize m
  | .feed input => 0x55 :: input
  | .send frame => 0x56 :: frame.dropLast
  | .enqueueTx m => 0x57 :: serialize m
  | .sendSync => [0x58]
  | .hCaptureComplete => [0x60]
  | .hRx => [0x61]
  | .hTxComplete => [0x62]
  | .tDoa => [0x63]
  | .tCommand => [0x64]
  | .tServoTick => [0x65]
  | .tTransmit => [0x66]
  | .textPan deg => serialize (.command ⟨some deg, none, none⟩)
  | .textTilt deg => serialize (.command ⟨none, some deg, none⟩)
  | .textStart => serialize (.command ⟨none, none, some true⟩)
  | .textStop => serialize (.command ⟨none, none, some false⟩)

/-! ### Words of the opcode table (log 8) -/

/-- The low `k` bytes of a number, bits 7..0 first (the table's numbering of the bits). -/
def wordBytes : Nat → Nat → List Byte
  | 0, _ => []
  | k + 1, w => BitVec.ofNat 8 w :: wordBytes k (w / 256)

/-- Continue bytes with zeros up to a length. -/
def zeroExtend (len : Nat) (bs : List Byte) : List Byte :=
  bs ++ List.replicate (len - bs.length) 0x00

/-- The layer of a table word: bytes `00` to `03` are the Message tags, which are the block's "only
externally encoded" instructions (30_encoding R111); any other first byte is an operation number,
which "is never transmitted" (R90). DESIGN CHOICE (log 8). -/
def wordLayer : List Byte → Layer
  | [] => .operation
  | b :: _ => if b.toNat ≤ 3 then .payload else .operation

/-- The length of a payload whose given bytes continue with zeros (30_encoding R100). -/
def zeroPayloadLength (n : Nat) (bs : List Byte) : Nat :=
  match (bs.getD 0 0).toNat with
  | 0 => 1
  | 1 => 9
  | 2 => 1 + 8 * n
  | _ =>
    let tiltAt := if bs.getD 1 0 = 0x01 then 6 else 2
    let samplingAt := if bs.getD tiltAt 0 = 0x01 then tiltAt + 5 else tiltAt + 1
    if bs.getD samplingAt 0 = 0x01 then samplingAt + 2 else samplingAt + 1

/-- The length of an operation whose operand bytes are all zero. -/
def zeroOperationLength (n : Nat) (number : Nat) : Nat :=
  match number with
  | 0x02 => 9
  | 0x10 => 2 + 8 * n
  | 0x20 => 3 + 4 * n
  | 0x21 => 3 + 4 * n
  | 0x31 => 2
  | 0x32 => 2
  | 0x33 => 3 + 4 * n
  | 0x40 => 6
  | 0x41 => 3
  | 0x42 => 2
  | 0x43 => 3
  | 0x50 => 2
  | 0x54 => 2
  | 0x57 => 2
  | _ => 1

/-- The bytes of a table word `w` of `nbits` bits: its own bytes, then the zero bytes the instruction
still has. -/
def tableWordBytes (n nbits w : Nat) : List Byte :=
  let bs := wordBytes ((nbits + 7) / 8) w
  match wordLayer bs with
  | .payload => zeroExtend (zeroPayloadLength n bs) bs
  | .operation => zeroExtend (zeroOperationLength n (bs.getD 0 0).toNat) bs
  | .text => bs

/-- The layer of a table word. -/
def tableWordLayer (nbits w : Nat) : Layer := wordLayer (wordBytes ((nbits + 7) / 8) w)

/-- The instruction the decoder reads from an instruction whose bits are `w`, in the numbering of
spec/opcode_table.json, under the configuration of the reset state. -/
def decodeTableWord (nbits w : Nat) : Option Instr :=
  match decode Config.default.signalLen (tableWordLayer nbits w)
      (tableWordBytes Config.default.signalLen nbits w) with
  | .ok i => some i
  | .error _ => none

end Sys2Proof
end

