-- ==== Sys2Proof/Machine/Arith.lean ====
section
/-! DEFINITION. The pseudocode primitives of spec/00_scope.md R11, R12 and the pure arithmetic of the
units: the DC remover (41_demux R150), the correlator and its peak scan (42_xcorr R160, R163), the lag
table, the fold and the pulse map (43_angle R175, R176, R179; 44_servo R200). -/

namespace Sys2Proof.Machine

/-! ### Primitives (R11) -/

/-- `tdiv(a, b)`: the quotient truncated toward zero. -/
def tdiv (a b : Int) : Int := Int.tdiv a b

/-- `trem(a, b) = a - b*tdiv(a, b)`: the remainder with the sign of `a`. -/
def trem (a b : Int) : Int := a - b * tdiv a b

/-- `clamp(v, lo, hi)`. -/
def clamp (v lo hi : Int) : Int :=
  if v < lo then lo else if v > hi then hi else v

/-- `sat16(v)`, as the 16-bit register it is stored in. -/
def sat16 (v : Int) : Sample := BitVec.ofInt 16 (clamp v (-32768) 32767)

/-! ### DC removal (R150) -/

/-- The running sum of a channel in the 64-bit register `DMX.SUM`. -/
def channelSum (xs : List Sample) : Acc :=
  xs.foldl (fun acc x => acc + x.signExtend 64) 0

/-- The DC mean of a sum over `n` samples: integer division, truncating toward zero. -/
def dcMean (n : Nat) (sum : Acc) : Int := tdiv sum.toInt n

/-- `sat16(v - mean)`. -/
def removeMean (mean : Int) (x : Sample) : Sample := sat16 (x.toInt - mean)

/-- The de-meaned series of one channel of a batch. -/
def channelSeries (n : Nat) (batch : List Frame) (c : Fin 4) : List Sample :=
  let xs := batch.map (·.get c)
  xs.map (removeMean (dcMean n (channelSum xs)))

/-! ### Correlation (R160) -/

/-- The inner loop of `XCORR_REAL` for output index `n`, from sample index `m` on: accumulate
`x[m]*y[n+m-half]` where that index is in range, and nothing where it is not (zero padding). -/
def corrLoop (y : List Sample) (half n : Nat) : List Sample → Nat → Acc → Acc
  | [], _, acc => acc
  | xm :: xs, m, acc =>
    let term : Acc :=
      if half ≤ n + m then
        match y[n + m - half]? with
        | some v => xm.signExtend 64 * v.signExtend 64
        | none => 0
      else 0
    corrLoop y half n xs (m + 1) (acc + term)

/-- The contents `XCORR_REAL` leaves in `CORR`, every element cleared before it accumulates. -/
def xcorr (len : Nat) (x y : List Sample) : List Acc :=
  (List.range len).map (fun n => corrLoop y (len / 2) n x 0 0)

/-- The left-to-right scan of `CALC_LAG` with a strict comparison: `n` is the index of the next
element, `best` and `bestv` the candidate (R163). -/
def scanPeak : List Acc → Nat → Nat → Acc → Nat
  | [], _, best, _ => best
  | v :: vs, n, best, bestv =>
    if bestv.toInt < v.toInt then scanPeak vs (n + 1) n v else scanPeak vs (n + 1) best bestv

/-- The index of the peak: element 0 is the first candidate (R163). -/
def peakIndex : List Acc → Nat
  | [] => 0
  | v :: vs => scanPeak vs 1 0 v

/-- The lag `CALC_LAG` returns for a correlation buffer: `best - XCORR_LEN/2`. -/
def lagOf (len : Nat) (corr : List Acc) : Int := (peakIndex corr : Int) - ((len / 2 : Nat) : Int)

/-! ### The lag table (R175 to R178) -/

/-- `COSTAB[0..180]`: 1000 times the cosine, rounded (R176). -/
def costab : List Int :=
  [1000, 1000, 999, 999, 998, 996, 995, 993, 990, 988] ++
  [985, 982, 978, 974, 970, 966, 961, 956, 951, 946] ++
  [940, 934, 927, 921, 914, 906, 899, 891, 883, 875] ++
  [866, 857, 848, 839, 829, 819, 809, 799, 788, 777] ++
  [766, 755, 743, 731, 719, 707, 695, 682, 669, 656] ++
  [643, 629, 616, 602, 588, 574, 559, 545, 530, 515] ++
  [500, 485, 469, 454, 438, 423, 407, 391, 375, 358] ++
  [342, 326, 309, 292, 276, 259, 242, 225, 208, 191] ++
  [174, 156, 139, 122, 105, 87, 70, 52, 35, 17] ++
  [0, -17, -35, -52, -70, -87, -105, -122, -139, -156] ++
  [-174, -191, -208, -225, -242, -259, -276, -292, -309, -326] ++
  [-342, -358, -375, -391, -407, -423, -438, -454, -469, -485] ++
  [-500, -515, -530, -545, -559, -574, -588, -602, -616, -629] ++
  [-643, -656, -669, -682, -695, -707, -719, -731, -743, -755] ++
  [-766, -777, -788, -799, -809, -819, -829, -839, -848, -857] ++
  [-866, -875, -883, -891, -899, -906, -914, -921, -927, -934] ++
  [-940, -946, -951, -956, -961, -966, -970, -974, -978, -982] ++
  [-985, -988, -990, -993, -995, -996, -998, -999, -999, -1000] ++
  [-1000]

/-- The ascending scan of R175 from degree `d` on: the first degree whose cosine is at most
`cosTheta`, 0 if none is. -/
def scanDegrees (cosTheta : Int) : List Int → Nat → Nat
  | [], _ => 0
  | cos :: rest, d => if cos ≤ cosTheta then d else scanDegrees cosTheta rest (d + 1)

/-- The scaled cosine proxy of a lag (R175, R177). -/
def cosTheta (c : Config) (lag : Int) : Int :=
  tdiv (lag * c.tSUs * c.vSound) c.dMicsMm

/-- The bearing `GEN_LAG_TABLE` stores for a lag. -/
def lagDegree (c : Config) (lag : Int) : Nat := scanDegrees (cosTheta c lag) costab 0

/-- `GEN_LAG_TABLE` (R175): the table of the configuration. -/
def genLagTable (c : Config) : List Byte :=
  (List.range c.k).map (fun (j : Nat) => BitVec.ofNat 8 (lagDegree c ((j : Int) - ((c.k / 2 : Nat) : Int))))

/-- The table length of the geometry: `2*floor((D_MICS_MM*1000)/(T_S_US*V_SOUND)) + 1` (00_scope R6). -/
def geometryK (c : Config) : Nat := 2 * ((c.dMicsMm * 1000) / (c.tSUs * c.vSound)) + 1

/-! ### The range fold and the table index (R179, R180) -/

/-- `REDUCE_LAG(lag)` for a table of length `k` (R179). -/
def foldLag (k : Nat) (lag : Int) : Int :=
  let maxLag : Int := ((k / 2 : Nat) : Int)
  let minLag : Int := -((k / 2 : Nat) : Int)
  if lag > maxLag then minLag + trem lag maxLag
  else if lag < minLag then maxLag + trem lag minLag
  else lag

/-- The precondition of `LAG_TO_ANGLE`: `-K/2 <= lag <= K/2` (R180). -/
def inLagWindow (k : Nat) (lag : Int) : Bool :=
  decide (-((k / 2 : Nat) : Int) ≤ lag ∧ lag ≤ ((k / 2 : Nat) : Int))

/-- The table index `lag + K/2` of a lag in the window (R180, 30_encoding R99). -/
def lagIndex (k : Nat) (lag : Int) : Nat := (lag + ((k / 2 : Nat) : Int)).toNat

/-! ### The servo (R196, R198 to R200) -/

/-- An angle request clamped to the travel of an axis (R196). -/
def clampAngle (c : Config) (a : Axis) (degrees : Int) : Angle :=
  BitVec.ofInt 32 (clamp degrees 0 (c.servoMax.get a).toInt)

/-- `DEG_TO_PULSE(a, degrees)` (R200): clamp, multiply, divide truncating toward zero. -/
def degToPulse (c : Config) (a : Axis) (degrees : Int) : Angle :=
  let d := clamp degrees 0 (c.servoMax.get a).toInt
  let p0 := (c.pulse0.get a).toInt
  let pMax := (c.pulseMax.get a).toInt
  BitVec.ofInt 32 (p0 + tdiv (d * (pMax - p0)) (c.servoMax.get a).toInt)

/-- The current angle one `STEP` later: one degree toward the goal, or unchanged (R198). -/
def stepAngle (cur goal : Angle) : Angle :=
  if cur.toInt < goal.toInt then BitVec.ofInt 32 (cur.toInt + 1)
  else if cur.toInt > goal.toInt then BitVec.ofInt 32 (cur.toInt - 1)
  else cur

/-- The goal `ADD_GOAL_OFFSET` writes: the current angle plus the signed distance of the bearing from
broadside, clamped (R199). -/
def offsetGoal (c : Config) (a : Axis) (cur : Angle) (bearing : Byte) : Angle :=
  clampAngle c a (cur.toInt + c.doaSign.get a * ((bearing.toNat : Int) - 90))

end Sys2Proof.Machine
end

