-- ==== Sys2Proof/Machine/Memory.lean ====
section
/-! DEFINITION. The data stores of DBCAP: `BUF`, `RAW`, `CH`, `CORR` (spec/10_state.md R21, R22, R36,
R37, R43; spec/20_memory.md R60, R63, R65). A store is a list of (index, element) pairs in one
canonical form: indices strictly rising. An index that is not listed holds no value (R49), so no entry
can equal it, and reading it is the model's fault. The unit of a store is the element the spec reads
and writes whole (R60); `BUF` and `RAW` are written by whole frames only (R65). -/

namespace Sys2Proof.Machine

/-- An indexed store, sparse. -/
abbrev Store (α : Type) := List (Nat × α)

/-- The value of an element, `none` if nothing has written it. -/
def Store.read {α : Type} : Store α → Nat → Option α
  | [], _ => none
  | (j, v) :: rest, i => if i = j then some v else Store.read rest i

/-- Write one element; the order of the indices is kept. -/
def Store.write {α : Type} : Store α → Nat → α → Store α
  | [], i, v => [(i, v)]
  | (j, w) :: rest, i, v =>
    if i < j then (i, v) :: (j, w) :: rest
    else if i = j then (i, v) :: rest
    else (j, w) :: Store.write rest i v

/-- The store whose elements `i, i+1, ...` are the given values and that has no other. -/
def Store.fromIndex {α : Type} : Nat → List α → Store α
  | _, [] => []
  | i, v :: vs => (i, v) :: Store.fromIndex (i + 1) vs

/-- The store that holds exactly the given values, from index 0 on: every element written. -/
def Store.ofList {α : Type} (vs : List α) : Store α := Store.fromIndex 0 vs

/-- Read the `n` elements from index `i` on; `none` if one of them has no value. -/
def Store.readFrom {α : Type} (st : Store α) : Nat → Nat → Option (List α)
  | _, 0 => some []
  | i, n + 1 =>
    match Store.read st i, Store.readFrom st (i + 1) n with
    | some v, some vs => some (v :: vs)
    | _, _ => none

/-- Read the elements `0..n-1`. -/
def Store.readAll {α : Type} (st : Store α) (n : Nat) : Option (List α) := Store.readFrom st 0 n

/-- The canonical form: indices strictly rising. -/
def Store.wf {α : Type} : Store α → Bool
  | [] => true
  | [_] => true
  | (i, _) :: (j, v) :: rest => decide (i < j) && Store.wf ((j, v) :: rest)

/-- The four channel series `CH[0..3]` (R21). -/
structure Channels where
  s0 : Store Sample
  s1 : Store Sample
  s2 : Store Sample
  s3 : Store Sample
deriving DecidableEq, Repr

/-- The store of channel `c`. -/
def Channels.get (ch : Channels) (c : Fin 4) : Store Sample :=
  match c with
  | 0 => ch.s0
  | 1 => ch.s1
  | 2 => ch.s2
  | 3 => ch.s3

/-- Replace the store of channel `c`. -/
def Channels.set (ch : Channels) (c : Fin 4) (st : Store Sample) : Channels :=
  match c with
  | 0 => { ch with s0 := st }
  | 1 => { ch with s1 := st }
  | 2 => { ch with s2 := st }
  | 3 => { ch with s3 := st }

/-- All data stores. -/
structure Memory where
  /-- `BUF[0]`, by frame. -/
  buf0 : Store Frame
  /-- `BUF[1]`, by frame. -/
  buf1 : Store Frame
  /-- `RAW`, by frame. -/
  raw : Store Frame
  /-- `CH[0..3]`, by sample. -/
  ch : Channels
  /-- `CORR`, by accumulator. -/
  corr : Store Acc
deriving DecidableEq, Repr

/-- No element holds a value (R49). -/
def Memory.empty : Memory := ⟨[], [], [], ⟨[], [], [], []⟩, []⟩

/-- The canonical form of every store. -/
def Memory.wf (m : Memory) : Bool :=
  Store.wf m.buf0 && Store.wf m.buf1 && Store.wf m.raw &&
    Store.wf m.ch.s0 && Store.wf m.ch.s1 && Store.wf m.ch.s2 && Store.wf m.ch.s3 && Store.wf m.corr

/-- The batch buffer `BUF[b]`. -/
def Memory.buf (m : Memory) (b : Fin 2) : Store Frame :=
  match b with
  | 0 => m.buf0
  | 1 => m.buf1

/-- `MemRead(BUF[b][i][0], 4)`: a whole frame (R65). -/
def Memory.readFrame (m : Memory) (b : Fin 2) (i : Nat) : Option Frame :=
  Store.read (m.buf b) i

/-- `MemRead(BUF[b][i][c], 1)`: one sample (R65). -/
def Memory.readSample (m : Memory) (b : Fin 2) (i : Nat) (c : Fin 4) : Option Sample :=
  (m.readFrame b i).map (·.get c)

/-- `MemWrite(BUF[b][i][0], 4, f)`: a whole frame, atomically (R65). -/
def Memory.writeFrame (m : Memory) (b : Fin 2) (i : Nat) (f : Frame) : Memory :=
  match b with
  | 0 => { m with buf0 := Store.write m.buf0 i f }
  | 1 => { m with buf1 := Store.write m.buf1 i f }

/-- Write `RAW[i]`. -/
def Memory.writeRaw (m : Memory) (i : Nat) (f : Frame) : Memory :=
  { m with raw := Store.write m.raw i f }

/-- Write `CH[c][i]`. -/
def Memory.writeCh (m : Memory) (c : Fin 4) (i : Nat) (x : Sample) : Memory :=
  { m with ch := m.ch.set c (Store.write (m.ch.get c) i x) }

/-- Write the whole series `CH[c]`. -/
def Memory.setCh (m : Memory) (c : Fin 4) (xs : List Sample) : Memory :=
  { m with ch := m.ch.set c (Store.ofList xs) }

/-- Write the whole of `CORR`. -/
def Memory.setCorr (m : Memory) (vs : List Acc) : Memory :=
  { m with corr := Store.ofList vs }

end Sys2Proof.Machine
end

