-- ==== Sys2Proof/Machine/State.lean ====
section
/-! DEFINITION. The state of DBCAP (spec/10_state.md R20 to R26, R36 to R49), plain data throughout;
the moves of its environment (spec/60_exceptions.md R274); the reasons a step can stop; the state after
reset (spec/10_state.md R49, spec/70_reset_and_hazards.md R311). -/

namespace Sys2Proof.Machine

/-- `DOA.PHASE` (CR6). -/
inductive DoaPhase where
  | idle
  | copyTx
  | demux
  | compute
deriving DecidableEq, Repr

/-- The result conditions of 60_exceptions R270. -/
inductive Condition where
  | needMore
  | overFull
  | deserError
  | txBusy
  | captureOverrun
  | configFault
  | cmdDropped
deriving DecidableEq, Repr

/-- The results of `FEED` (45_framing R226). -/
inductive FeedResult where
  | needMore
  | overFull
  | deserError
  | ready (msg : Message)
deriving DecidableEq, Repr

/-- The value an operation returns. The model's own (log 9): the spec's results are typed values that
go to the caller. -/
inductive Returned where
  /-- No operation has returned a value. -/
  | nothing
  /-- `GET_NEWEST_BATCH`: a buffer index, or none (R134). -/
  | batch (b : Option (Fin 2))
  /-- `CALC_LAG`, `REDUCE_LAG`: a lag (R163, R179). -/
  | lag (l : Int)
  /-- `LAG_TO_ANGLE`, `CALC_ANGLE`: a bearing (R180, R181). -/
  | degree (d : Byte)
  /-- `DEG_TO_PULSE`: a pulse width (R200). -/
  | pulse (p : Angle)
  /-- `SERIALIZE`, `STUFF`, `UNSTUFF`, `ENCODE_FRAME`: a byte string (R216, R218 to R220). -/
  | bytes (bs : List Byte)
  /-- `DESERIALIZE`: a Message (R217). -/
  | message (m : Message)
  /-- `FEED`: a result and the remaining input (R226). -/
  | feed (r : FeedResult) (remaining : List Byte)
  /-- `SEND`: ok (R230). -/
  | ok
  /-- The operation ended with a condition: `DeserError` (R217, R219) or `TxBusy` (R230). -/
  | condition (c : Condition)
deriving DecidableEq, Repr

/-- The turns of the agents: the moves of 60_exceptions R274, a turn of the processor agent, and the
model's direct invocation (log 4, log 6). -/
inductive Move where
  /-- Microphones and capture timer: `TICK(f)`. -/
  | tick (f : Frame)
  /-- Link, receive side: deliver a chunk. -/
  | deliver (chunk : List Byte)
  /-- Link, transmit side: finish draining. -/
  | drain
  /-- Servo tick source: control tick. -/
  | servoTick
  /-- Host: send a `Command`, in one chunk (cut otherwise, it is a list of `deliver` moves). -/
  | hostSend (cmd : Command)
  /-- Host: read `LINK.TX`. -/
  | hostReceive
  /-- Boot software: `SEND_SYNC`. -/
  | sendSync
  /-- Reset source: reset. -/
  | reset
  /-- One step of the processor agent; `txFirst` settles the order inside level 2 (R283). -/
  | processor (txFirst : Bool)
  /-- An operation or Message invoked directly, as the bytes of a layer. -/
  | invoke (l : Layer) (bs : List Byte)
deriving DecidableEq, Repr

/-- The data stores, by name. -/
inductive StoreName where
  | buf
  | raw
  | ch
  | lagTab
deriving DecidableEq, Repr

/-- Faults. Safe: the machine stops where the spec says the model faults. -/
inductive Fault where
  /-- Raised by a read of a store element that nothing has written (10_state R49, 93 U1). Safe: no run
  of the spec's own moves from reset reaches it (20_memory R70). -/
  | noValue (store : StoreName)
deriving DecidableEq, Repr

/-- Refusals. Safe: each stops the machine where the spec gives no behaviour. -/
inductive Refusal where
  /-- Raised by `exec` for an instruction that has no meaning yet. Safe. No arm uses it. -/
  | notModelled (mnemonic : String)
  /-- Raised at reset exit by a configuration that fails the check: "the block never leaves reset"
  (70_reset R313). Safe. -/
  | configFault
  /-- Raised by `LAG_TO_ANGLE` outside its precondition (43_angle R180, 93 U5). Safe. -/
  | lagOutsideWindow
  /-- Raised by a meaning given operands outside the types of its rule (`Instr.wellFormed`); the
  decoder never yields one. Safe (log 17). -/
  | illFormed
  /-- Raised by a direct invocation of bytes that are no operation or text command (30_encoding R110:
  "Numbers not in the table are unassigned"). Safe. -/
  | undecodable (e : DecodeError)
  /-- Raised by an environment move outside its enabling condition: "not a step of the model"
  (60_exceptions R274, 93 U21). Safe (log 11). -/
  | moveNotEnabled
deriving DecidableEq, Repr

/-- The state of the block. The names are those of spec/10_state.md. -/
structure State where
  /-- CR14 to CR27: the configuration, which nothing writes (00_scope R6, 10_state R26). -/
  cfg : Config
  /-- The block has not left reset (70_reset R312, R313). -/
  inReset : Bool
  /-- `CAP.EN` (CR0). -/
  capEn : Bool
  /-- `CAP.PAUSED` (CR1). -/
  capPaused : Bool
  /-- `CAP.ACTIVE` (CR2). -/
  capActive : Fin 2
  /-- `CAP.WR` (CR3). -/
  capWr : Nat
  /-- `CAP.RDYV` (CR4). -/
  capRdyV : Bool
  /-- `CAP.OUT` (CR5). -/
  capOut : Bool
  /-- `BUF`, `RAW`, `CH`, `CORR` (R21, R22, R36, R37). -/
  mem : Memory
  /-- `DMX.SUM` (R37). -/
  dmxSum : Acc
  /-- `DOA.PHASE` (CR6). -/
  doaPhase : DoaPhase
  /-- `DOA.SRC` (CR7). -/
  doaSrc : Fin 2
  /-- `DOA.NEWEST` (CR8). -/
  doaNewest : Fin 2
  /-- `DOA.C` (CR9). -/
  doaC : Fin 4
  /-- `DOA.I` (CR9). -/
  doaI : Nat
  /-- `DOA.LAG[a]` (CR10). -/
  doaLag : PerAxis (BitVec 32)
  /-- `DOA.BEARING[a]` (CR10). -/
  doaBearing : PerAxis Byte
  /-- `LAGTAB` (R38). -/
  lagTab : List Byte
  /-- `SRV.GOAL[a]` (R23). -/
  srvGoal : PerAxis Angle
  /-- `SRV.CUR[a]` (R23). -/
  srvCur : PerAxis Angle
  /-- `SRV.PULSE[a]` (R23, 44_servo R201). -/
  srvPulse : PerAxis Angle
  /-- `RX.ACC[0..RX.FILL)` (R40); its length is `RX.FILL` (CR12; log 14). -/
  rxAcc : List Byte
  /-- `TX.BUSY` (CR11). -/
  txBusy : Bool
  /-- `TX.BUF` (R41). -/
  txBuf : List Byte
  /-- `LINK.TX` (R41). -/
  linkTx : List Byte
  /-- `TXQ.R` (R42). -/
  txqR : List Message
  /-- `TXQ.S` (R42). -/
  txqS : List Message
  /-- `CMDQ` (R42). -/
  cmdq : List Command
  /-- `PEND.BATCH` (R44). -/
  pendBatch : Bool
  /-- `PEND.TXC` (R44). -/
  pendTxc : Bool
  /-- `PEND.DOA` (R44). -/
  pendDoa : Bool
  /-- `PEND.STICK` (R44). -/
  pendStick : Bool
  /-- `LINK.RXQ` (R45). -/
  linkRxq : List (List Byte)
  /-- `DIAG` (R47): condition codes, oldest first. -/
  diag : List Nat
  /-- `G.GAP` (R48). -/
  gGap : Bool
  /-- `G.OVERRUN` (R48). -/
  gOverrun : Bool
  /-- `G.TXDROP` (R48). -/
  gTxDrop : Bool
  /-- `G.CMDDROP` (R48). -/
  gCmdDrop : Bool
  /-- The model's own: the agents' turns still to come, next first (log 4). -/
  sched : List Move
  /-- The model's own: how many free choices of the level-2 order were drawn (log 5). -/
  l2Draws : Nat
  /-- The model's own: the value the last operation returned (log 9). -/
  ret : Returned
deriving DecidableEq, Repr

/-- Every field at its reset value for a configuration (10_state R49); the model's own schedule and
draw counter are given. The scratch registers the spec leaves "unspecified: no value" are 0 (DESIGN
CHOICE, log 2). The block is in reset until reset exit (70_reset R312). -/
def State.resetWith (c : Config) (sched : List Move) (draws : Nat) : State where
  cfg := c
  inReset := true
  capEn := false
  capPaused := false
  capActive := 0
  capWr := 0
  capRdyV := false
  capOut := false
  mem := Memory.empty
  dmxSum := 0
  doaPhase := .idle
  doaSrc := 0
  doaNewest := 0
  doaC := 0
  doaI := 0
  doaLag := ⟨0, 0⟩
  doaBearing := ⟨0, 0⟩
  lagTab := genLagTable c
  srvGoal := c.servoInit
  srvCur := c.servoInit
  srvPulse := ⟨degToPulse c .pan c.servoInit.pan.toInt, degToPulse c .tilt c.servoInit.tilt.toInt⟩
  rxAcc := []
  txBusy := false
  txBuf := []
  linkTx := []
  txqR := []
  txqS := []
  cmdq := []
  pendBatch := false
  pendTxc := false
  pendDoa := false
  pendStick := false
  linkRxq := []
  diag := []
  gGap := false
  gOverrun := false
  gTxDrop := false
  gCmdDrop := false
  sched := sched
  l2Draws := draws
  ret := .nothing

/-- The machine right after reset (R49), under the configuration of log 1, with no turn scheduled. -/
def State.reset : State := State.resetWith Config.default [] 0

/-- What one step answers. -/
abbrev StepOutcome := Host.Outcome State Fault Refusal

end Sys2Proof.Machine
end

