-- ==== Sys2Proof/Machine/Flags.lean ====
section
/-! DEFINITION. Flags, pending bits and levels (spec/10_state.md R25, R44; spec/60_exceptions.md R270,
R275, R276, R280, R282). The arithmetic units set no condition codes (R25): what this hardware has are
event bits, the derived bits, the runnable levels, and the codes of the conditions. -/

namespace Sys2Proof.Machine

/-- The code `diag` appends for a condition (R270). -/
def Condition.code : Condition → Nat
  | .needMore => 0
  | .overFull => 1
  | .deserError => 2
  | .txBusy => 3
  | .captureOverrun => 4
  | .configFault => 5
  | .cmdDropped => 6

/-- `RX.FILL` (CR12): how many bytes of an unfinished frame the accumulator holds. -/
def rxFill (s : State) : Nat := s.rxAcc.length

/-- `PEND.RX`: `LINK.RXQ` is not empty (R44). -/
def pendRx (s : State) : Bool := !s.linkRxq.isEmpty

/-- `PEND.CMD`: `CMDQ` is not empty (R44). -/
def pendCmd (s : State) : Bool := !s.cmdq.isEmpty

/-- `PEND.TX`: a transmit queue is not empty and no frame is in flight (R44). -/
def pendTx (s : State) : Bool := (!s.txqR.isEmpty || !s.txqS.isEmpty) && !s.txBusy

/-- The enabling condition of `TICK` (40_capture R132). -/
def tickEnabled (s : State) : Bool := s.capEn && !s.capPaused

/-- The enabling condition of the link's completion move (60_exceptions R274). -/
def drainEnabled (s : State) : Bool := s.txBusy && !s.pendTxc

/-- An axis is `Idle`, not `Stepping` (44_servo R197). -/
def axisIdle (s : State) (a : Axis) : Bool := s.srvCur.get a == s.srvGoal.get a

/-- The six priority levels, 1 the highest (R280). -/
inductive Level where
  | l1
  | l2
  | l3
  | l4
  | l5
  | l6
deriving DecidableEq, Repr

/-- A level is runnable when its pending bit is 1, or, for level 3, when the DoA task is in progress
(R282). -/
def runnable (s : State) : Level → Bool
  | .l1 => s.pendBatch
  | .l2 => s.pendTxc || pendRx s
  | .l3 => s.pendDoa || s.doaPhase != .idle
  | .l4 => pendCmd s
  | .l5 => s.pendStick
  | .l6 => pendTx s

/-- The runnable level with the smallest number, if any level is runnable (R282). -/
def topLevel (s : State) : Option Level :=
  [Level.l1, Level.l2, Level.l3, Level.l4, Level.l5, Level.l6].find? (runnable s)

/-- Both level-2 handlers are pending and level 1 is not: the choice of R283 is open. -/
def level2Tie (s : State) : Bool := !s.pendBatch && s.pendTxc && pendRx s

/-- A quiescent state: no level runnable, nothing in flight, nothing received, the DoA task idle
(R295). -/
def quiescent (s : State) : Bool :=
  (topLevel s).isNone && !s.txBusy && s.linkRxq.isEmpty && s.doaPhase == .idle

end Sys2Proof.Machine
end

