-- ==== Sys2Proof/Machine/Ops.lean ====
section
/-! DEFINITION. The operations shared by the units: ending with a condition (spec/00_scope.md R11
`raise`, spec/60_exceptions.md R270), the diagnostic stream (R11 `diag`), sequencing of outcomes, the
transmit queues (spec/46_tasks.md R259) and the delivery of a decoded Message (R251). The block has no
trap, no saved program counter, no mode and no return (spec/60_exceptions.md R285, R286, R290): a
condition is the result of the operation that raised it, and the machine goes on. -/

namespace Sys2Proof.Machine

/-- Go on from a next state; stop with the first fault or refusal. -/
def thenDo (o : StepOutcome) (k : State → StepOutcome) : StepOutcome :=
  match o with
  | .next s => k s
  | .fault r => .fault r
  | .refused r => .refused r

/-- Return a value to the caller (log 9). -/
def returning (v : Returned) (s : State) : State := { s with ret := v }

/-- `raise <Condition>`: end the operation with a named condition; no other state is changed (R11). -/
def raiseCondition (c : Condition) (s : State) : StepOutcome := .next (returning (.condition c) s)

/-- `diag(code)`: append one code to `DIAG` (R11, 10_state R47). -/
def diagnose (c : Condition) (s : State) : State := { s with diag := s.diag ++ [c.code] }

/-- A Message is a `Samples` Message. -/
def isSamples : Message → Bool
  | .samples _ => true
  | .sync => false
  | .panTiltStatus _ _ => false
  | .command _ => false

/-- `ENQUEUE_TX(msg)` (46_tasks R259): `Samples` to `TXQ.S`, anything else to `TXQ.R`; a full queue
drops the new Message and sets `G.TXDROP`. -/
def enqueueMessage (m : Message) (s : State) : State :=
  if isSamples m then
    if s.txqS.length < s.cfg.txqSamplesCap then { s with txqS := s.txqS ++ [m] }
    else { s with gTxDrop := true }
  else
    if s.txqR.length < s.cfg.txqReplyCap then { s with txqR := s.txqR ++ [m] }
    else { s with gTxDrop := true }

/-- "deliver msg" (46_tasks R251): a `Command` goes to `CMDQ`, or is dropped and logged when `CMDQ` is
full; any other Message is discarded. -/
def deliverMessage (m : Message) (s : State) : State :=
  match m with
  | .command c =>
    if s.cmdq.length < s.cfg.cmdqCap then { s with cmdq := s.cmdq ++ [c] }
    else diagnose .cmdDropped { s with gCmdDrop := true }
  | .sync => s
  | .panTiltStatus _ _ => s
  | .samples _ => s

end Sys2Proof.Machine
end

