-- ==== Sys2Proof/Machine/Operands.lean ====
section
/-! DEFINITION. The operand forms of the operations (spec/30_encoding.md R99; spec/41_demux.md R150;
spec/42_xcorr.md R160): a batch is a value or a batch buffer, a series is a value or one of `CH[0..3]`,
a Message is a value. A value outside the operand's type is refused (log 17); an element that nothing
has written faults (spec/10_state.md R49). -/

namespace Sys2Proof.Machine

/-- Go on with a value read from a store, or fault because an element has no value. -/
def orNoValue {α : Type} (store : StoreName) (v : Option α) (k : α → StepOutcome) : StepOutcome :=
  match v with
  | some x => k x
  | none => .fault (.noValue store)

/-- The frames of a batch operand. -/
def withBatch (s : State) (b : BatchRef) (k : List Frame → StepOutcome) : StepOutcome :=
  match b with
  | .values frames => if b.wellFormed s.cfg.signalLen then k frames else .refused .illFormed
  | .buffer i => orNoValue .buf (Store.readAll (s.mem.buf i) s.cfg.signalLen) k

/-- The samples of a series operand. -/
def withSeries (s : State) (x : SeriesRef) (k : List Sample → StepOutcome) : StepOutcome :=
  match x with
  | .values xs => if x.wellFormed s.cfg.signalLen then k xs else .refused .illFormed
  | .channel c => orNoValue .ch (Store.readAll (s.mem.ch.get c) s.cfg.signalLen) k

/-- Go on if a condition on the operands holds. -/
def ifWellFormed (ok : Bool) (k : StepOutcome) : StepOutcome :=
  if ok then k else .refused .illFormed

end Sys2Proof.Machine
end

