-- ==== Sys2Proof/Machine/Xcorr.lean ====
section
/-! DEFINITION. The cross-correlation engine XC (spec/42_xcorr.md R160 to R164). -/

namespace Sys2Proof.Machine

/-- `XCORR_REAL(x, y)` (R160): every element of `CORR` is cleared and accumulated anew. -/
def correlate (x y : List Sample) (s : State) : State :=
  { s with mem := s.mem.setCorr (xcorr s.cfg.xcorrLen x y) }

/-- The lag `CALC_LAG(x, y)` returns (R163). -/
def peakLag (c : Config) (x y : List Sample) : Int := lagOf c.xcorrLen (xcorr c.xcorrLen x y)

/-- `XCORR_REAL(x, y)`. -/
def execXcorrReal (x y : SeriesRef) (s : State) : StepOutcome :=
  withSeries s x (fun xs => withSeries s y (fun ys => .next (correlate xs ys s)))

/-- `CALC_LAG(x, y)`, with its lag returned. -/
def execCalcLag (x y : SeriesRef) (s : State) : StepOutcome :=
  withSeries s x (fun xs => withSeries s y (fun ys =>
    .next (returning (.lag (peakLag s.cfg xs ys)) (correlate xs ys s))))

end Sys2Proof.Machine
end

