-- ==== Sys2Proof/Machine/Angle.lean ====
section
/-! DEFINITION. The lag table and the lag-to-angle mapper ANG (spec/43_angle.md R175 to R181). -/

namespace Sys2Proof.Machine

/-- `REDUCE_LAG(lag)` for the table of the configuration; a lag is "any signed integer" (R179). -/
def reducedLag (c : Config) (lag : Int) : Int := foldLag c.k lag

/-- `LAG_TO_ANGLE(lag)` (R180): the table element, refused outside the window, never wrapped or
clamped. -/
def withAngle (s : State) (lag : Int) (k : Byte → StepOutcome) : StepOutcome :=
  if inLagWindow s.cfg.k lag then
    orNoValue .lagTab s.lagTab[lagIndex s.cfg.k lag]? k
  else .refused .lagOutsideWindow

/-- `GEN_LAG_TABLE`. -/
def execGenLagTable (s : State) : StepOutcome := .next { s with lagTab := genLagTable s.cfg }

/-- `REDUCE_LAG(lag)`, with its lag returned. -/
def execReduceLag (lag : Int) (s : State) : StepOutcome :=
  .next (returning (.lag (reducedLag s.cfg lag)) s)

/-- `LAG_TO_ANGLE(lag)`, with its bearing returned. -/
def execLagToAngle (lag : Int) (s : State) : StepOutcome :=
  withAngle s lag (fun d => .next (returning (.degree d) s))

/-- `CALC_ANGLE(chA, chB)` (R181): `CALC_LAG`, the fold, the lookup. -/
def execCalcAngle (chA chB : SeriesRef) (s : State) : StepOutcome :=
  withSeries s chA (fun xs => withSeries s chB (fun ys =>
    withAngle s (reducedLag s.cfg (peakLag s.cfg xs ys)) (fun d =>
      .next (returning (.degree d) (correlate xs ys s)))))

end Sys2Proof.Machine
end

