-- ==== Sys2Proof/Machine/Capture.lean ====
section
/-! DEFINITION. The capture unit CAP (spec/40_capture.md R130 to R135). -/

namespace Sys2Proof.Machine

/-- `START_SAMPLING` (R131): from stopped, arm and begin a fresh batch; from started, nothing. -/
def startCapture (s : State) : State :=
  if s.capEn then s
  else { s with capEn := true, capPaused := false, capWr := 0, pendBatch := false }

/-- `STOP_SAMPLING` (R133): disarm; nothing else is touched. -/
def stopCapture (s : State) : State := { s with capEn := false }

/-- The body of an enabled `TICK(f)` (R132): write the frame and pend `BATCH` when it was the last of
the batch, or lose it when the buffer is full and not yet swapped. -/
def captureFrame (f : Frame) (s : State) : State :=
  if s.capWr < s.cfg.signalLen then
    { s with
      mem := s.mem.writeFrame s.capActive s.capWr f
      capWr := s.capWr + 1
      pendBatch := s.pendBatch || s.capWr + 1 == s.cfg.signalLen }
  else { s with gGap := true }

/-- The other buffer: `1 - b`. -/
def otherBuffer (b : Fin 2) : Fin 2 := 1 - b

/-- `GET_NEWEST_BATCH` (R134): the buffer index it returns and the state it leaves. A swap while a
reference is outstanding proceeds and sets `G.OVERRUN`. -/
def newestBatch (s : State) : Option (Fin 2) × State :=
  if s.capWr = s.cfg.signalLen then
    (some s.capActive,
      { s with
        gOverrun := s.gOverrun || s.capOut
        capActive := otherBuffer s.capActive
        capWr := 0
        capRdyV := true
        capOut := true })
  else (none, s)

/-- `RELEASE_BATCH` (R135). -/
def releaseReference (s : State) : State := { s with capOut := false }

/-- `START_SAMPLING`. -/
def execStartSampling (s : State) : StepOutcome := .next (startCapture s)

/-- `STOP_SAMPLING`. -/
def execStopSampling (s : State) : StepOutcome := .next (stopCapture s)

/-- `TICK(f)`: "When not enabled the timer is disarmed: no tick occurs and nothing changes" (R132;
log 11). -/
def execTick (f : Frame) (s : State) : StepOutcome :=
  .next (if tickEnabled s then captureFrame f s else s)

/-- `GET_NEWEST_BATCH`, with its result returned. -/
def execGetNewestBatch (s : State) : StepOutcome :=
  .next (returning (.batch (newestBatch s).1) (newestBatch s).2)

/-- `RELEASE_BATCH`. -/
def execReleaseBatch (s : State) : StepOutcome := .next (releaseReference s)

end Sys2Proof.Machine
end

