-- ==== Sys2Proof/Machine/Demux.lean ====
section
/-! DEFINITION. The channel demultiplexer and DC remover DMX (spec/41_demux.md R150 to R152). -/

namespace Sys2Proof.Machine

/-- `FROM_BATCH(batch)` (R150): the four de-meaned series in `CH`, and in `DMX.SUM` the running sum of
the channel done last (log 21). -/
def demuxBatch (batch : List Frame) (s : State) : State :=
  let n := s.cfg.signalLen
  { s with
    mem := (((s.mem.setCh 0 (channelSeries n batch 0)).setCh 1 (channelSeries n batch 1)).setCh 2
      (channelSeries n batch 2)).setCh 3 (channelSeries n batch 3)
    dmxSum := channelSum (batch.map (·.get 3)) }

/-- `FROM_BATCH(batch)`. -/
def execFromBatch (b : BatchRef) (s : State) : StepOutcome :=
  withBatch s b (fun batch => .next (demuxBatch batch s))

end Sys2Proof.Machine
end

