-- ==== Sys2Proof/Machine/Framing.lean ====
section
/-! DEFINITION. The framed channel FRM (spec/45_framing.md R215 to R230): byte stuffing, frames, the
receive accumulator, the single-flight transmitter. `SERIALIZE` and `DESERIALIZE` are in Decode.lean. -/

namespace Sys2Proof.Machine

/-! ### Stuffing (R218, R219) -/

/-- A block of `STUFF`: its code byte, then its non-zero bytes. -/
def stuffBlock (block : List Byte) : List Byte := BitVec.ofNat 8 (block.length + 1) :: block

/-- The loop of `STUFF` with the bytes since the last code byte; at the end stands the zero that is
appended in thought (R218). -/
def stuffLoop : List Byte → List Byte → List Byte
  | block, [] => stuffBlock block
  | block, v :: vs =>
    if v = 0x00 then stuffBlock block ++ stuffLoop [] vs
    else if (block ++ [v]).length = 254 then 0xFF :: (block ++ [v]) ++ stuffLoop [] vs
    else stuffLoop (block ++ [v]) vs

/-- `STUFF(payload)`. -/
def stuffBytes (payload : List Byte) : List Byte := stuffLoop [] payload

/-- The loop of `UNSTUFF`: how many bytes of the block are still to be copied, and whether a `00`
follows the block if the body goes on. A code byte `00` cannot stand in a body (R219). -/
def unstuffLoop : List Byte → Nat → Bool → Option (List Byte)
  | [], 0, _ => some []
  | [], _ + 1, _ => none
  | code :: bs, 0, zeroNext =>
    if code = 0x00 then none
    else
      match unstuffLoop bs (code.toNat - 1) (code != 0xFF) with
      | some out => some (if zeroNext then 0x00 :: out else out)
      | none => none
  | b :: bs, k + 1, zeroNext =>
    match unstuffLoop bs k zeroNext with
    | some out => some (b :: out)
    | none => none

/-- `UNSTUFF(body)`: `none` is the condition `DeserError` (30_encoding R106). -/
def unstuffBytes (body : List Byte) : Option (List Byte) :=
  if body.isEmpty then none else unstuffLoop body 0 false

/-- `ENCODE_FRAME(msg)` (R220). -/
def frameOf (m : Message) : List Byte := stuffBytes (serialize m) ++ [0x00]

/-! ### The accumulator (R226, R227) -/

/-- The bytes before the first `00` and the bytes after it, if there is one. -/
def splitDelimiter : List Byte → Option (List Byte × List Byte)
  | [] => none
  | b :: bs =>
    if b = 0x00 then some ([], bs)
    else
      match splitDelimiter bs with
      | some (before, rest) => some (b :: before, rest)
      | none => none

/-- The result of a whole body: unstuff, then deserialise; `n` is `SIGNAL_LEN`. -/
def bodyResult (n : Nat) (body : List Byte) : FeedResult :=
  match unstuffBytes body with
  | none => .deserError
  | some payload =>
    match deserialize n payload with
    | .ok m => .ready m
    | .error _ => .deserError

/-- What one `FEED` answers. -/
structure FeedStep where
  acc : List Byte
  result : FeedResult
  remaining : List Byte
deriving DecidableEq, Repr

/-- `FEED(input)` on an accumulator (R226). -/
def feedStep (c : Config) (acc input : List Byte) : FeedStep :=
  if input.isEmpty then ⟨acc, .needMore, []⟩
  else
    match splitDelimiter input with
    | some (before, rest) =>
      if acc.length + (before.length + 1) ≤ c.nRx then
        ⟨[], bodyResult c.signalLen (acc ++ before), rest⟩
      else ⟨[], .overFull, rest⟩
    | none =>
      if acc.length + input.length ≤ c.nRx then ⟨acc ++ input, .needMore, []⟩
      else ⟨[], .overFull, input.drop (c.nRx - acc.length)⟩

/-- The results of `FEED_ALL` before the closing `NeedMore`, and the accumulator it leaves (R227). The
number bounds the rounds (log 19). -/
def feedRounds (c : Config) : Nat → List Byte → List Byte → List FeedResult × List Byte
  | 0, acc, _ => ([], acc)
  | k + 1, acc, input =>
    let r := feedStep c acc input
    match r.result with
    | .needMore => ([], r.acc)
    | res =>
      let tail := feedRounds c k r.acc r.remaining
      (res :: tail.1, tail.2)

/-- `FEED_ALL(chunk)`: every result but the closing `NeedMore`, in order, and the accumulator. -/
def feedAll (c : Config) (acc chunk : List Byte) : List FeedResult × List Byte :=
  feedRounds c (chunk.length + 2) acc chunk

/-- What the driver loop does with one result (R227): deliver a Message, log an error. -/
def handleResult (r : FeedResult) (s : State) : State :=
  match r with
  | .needMore => s
  | .ready m => deliverMessage m s
  | .overFull => diagnose .overFull s
  | .deserError => diagnose .deserError s

/-- `FEED_ALL(chunk)` on the state. -/
def feedChunk (chunk : List Byte) (s : State) : State :=
  let out := feedAll s.cfg s.rxAcc chunk
  out.1.foldl (fun t r => handleResult r t) { s with rxAcc := out.2 }

/-! ### The transmitter (R230) -/

/-- `SEND(frame)` when nothing is in flight: the link may now drain the frame. -/
def startTransmit (frame : List Byte) (s : State) : State := { s with txBusy := true, txBuf := frame }

/-! ### The operations -/

/-- `SERIALIZE(msg)`. -/
def execSerialize (m : Message) (s : State) : StepOutcome :=
  ifWellFormed (m.wellFormed s.cfg.signalLen) (.next (returning (.bytes (serialize m)) s))

/-- `DESERIALIZE(payload)`: a Message, or the condition `DeserError` (R217). -/
def execDeserialize (payload : List Byte) (s : State) : StepOutcome :=
  match deserialize s.cfg.signalLen payload with
  | .ok m => .next (returning (.message m) s)
  | .error _ => raiseCondition .deserError s

/-- `STUFF(payload)`. -/
def execStuff (payload : List Byte) (s : State) : StepOutcome :=
  .next (returning (.bytes (stuffBytes payload)) s)

/-- `UNSTUFF(body)`: a payload, or the condition `DeserError`; the body holds no `00` (R219). -/
def execUnstuff (body : List Byte) (s : State) : StepOutcome :=
  ifWellFormed (body.all (· != 0))
    (match unstuffBytes body with
     | some payload => .next (returning (.bytes payload) s)
     | none => raiseCondition .deserError s)

/-- `ENCODE_FRAME(msg)`. -/
def execEncodeFrame (m : Message) (s : State) : StepOutcome :=
  ifWellFormed (m.wellFormed s.cfg.signalLen) (.next (returning (.bytes (frameOf m)) s))

/-- `FEED(input)`, with its result and the remaining input returned. -/
def execFeed (input : List Byte) (s : State) : StepOutcome :=
  let r := feedStep s.cfg s.rxAcc input
  .next (returning (.feed r.result r.remaining) { s with rxAcc := r.acc })

/-- `SEND(frame)`: single flight; busy is reported and nothing changes (R230). -/
def execSend (frame : List Byte) (s : State) : StepOutcome :=
  ifWellFormed (frame.getLast? == some 0)
    (if s.txBusy then raiseCondition .txBusy s else .next (returning .ok (startTransmit frame s)))

end Sys2Proof.Machine
end

