-- ==== Sys2Proof/Machine/Servo.lean ====
section
/-! DEFINITION. The servo angle controller SRV (spec/44_servo.md R195 to R201). -/

namespace Sys2Proof.Machine

/-- `SET_GOAL(a, degrees)` (R196): clamp and record; nothing moves. -/
def writeGoal (a : Axis) (degrees : Angle) (s : State) : State :=
  { s with srvGoal := s.srvGoal.set a (clampAngle s.cfg a degrees.toInt) }

/-- `ADD_GOAL_OFFSET(a, bearing)` (R199): the goal is set relative to the current angle. -/
def addOffset (a : Axis) (bearing : Byte) (s : State) : State :=
  { s with srvGoal := s.srvGoal.set a (offsetGoal s.cfg a (s.srvCur.get a) bearing) }

/-- `STEP(a)` (R198): one degree toward the goal, and the pulse of the new angle. -/
def stepAxis (a : Axis) (s : State) : State :=
  let cur := stepAngle (s.srvCur.get a) (s.srvGoal.get a)
  { s with
    srvCur := s.srvCur.set a cur
    srvPulse := s.srvPulse.set a (degToPulse s.cfg a cur.toInt) }

/-- `SET_GOAL(a, degrees)`. -/
def execSetGoal (a : Axis) (degrees : Angle) (s : State) : StepOutcome := .next (writeGoal a degrees s)

/-- `ADD_GOAL_OFFSET(a, bearing)`; a bearing is 0..180. -/
def execAddGoalOffset (a : Axis) (bearing : Byte) (s : State) : StepOutcome :=
  ifWellFormed (decide (bearing.toNat ≤ 180)) (.next (addOffset a bearing s))

/-- `STEP(a)`. -/
def execStep (a : Axis) (s : State) : StepOutcome := .next (stepAxis a s)

/-- `DEG_TO_PULSE(a, degrees)`, with its pulse width returned (R200). -/
def execDegToPulse (a : Axis) (degrees : Int) (s : State) : StepOutcome :=
  .next (returning (.pulse (degToPulse s.cfg a degrees)) s)

end Sys2Proof.Machine
end

