-- ==== Sys2Proof/Machine/Tasks.lean ====
section
/-! DEFINITION. The sequencer SEQ: handlers, tasks and queueing (spec/46_tasks.md R250 to R263). Each
body is one atomic step, except `T_DOA`, which is one step per call, the step its phase names. When each
runs is in Sequencer.lean. -/

namespace Sys2Proof.Machine

/-! ### Queueing (R259, R260) -/

/-- `ENQUEUE_TX(msg)`. -/
def execEnqueueTx (m : Message) (s : State) : StepOutcome :=
  ifWellFormed (m.wellFormed s.cfg.signalLen) (.next (enqueueMessage m s))

/-- `SEND_SYNC`. -/
def execSendSync (s : State) : StepOutcome := .next (enqueueMessage .sync s)

/-! ### Level 1 and level 2 (R251 to R253) -/

/-- `H_CAPTURE_COMPLETE` (R253): clear the bit, swap, hold capture in the paused variant, hand the batch
to the DoA task. With no complete batch only the bit is cleared. -/
def execHCaptureComplete (s : State) : StepOutcome :=
  let s := { s with pendBatch := false }
  match newestBatch s with
  | (none, s) => .next s
  | (some b, s) =>
    .next { s with
      capPaused := s.cfg.pauseForDoa || s.capPaused
      doaNewest := b
      pendDoa := true }

/-- `H_RX` (R251): the first chunk of `LINK.RXQ` goes through the accumulator. With no chunk there is
nothing to run (log 12). -/
def execHRx (s : State) : StepOutcome :=
  match s.linkRxq with
  | [] => .next s
  | chunk :: rest => .next (feedChunk chunk { s with linkRxq := rest })

/-- `H_TX_COMPLETE` (R252). -/
def execHTxComplete (s : State) : StepOutcome := .next { s with pendTxc := false, txBusy := false }

/-! ### Level 3: the DoA task (R254 to R257) -/

/-- The start step (R254). -/
def doaStart (s : State) : State :=
  { s with
    pendDoa := false
    doaSrc := s.doaNewest
    doaI := 0
    doaC := 0
    dmxSum := 0
    doaPhase := if s.cfg.sendSamples then .copyTx else .demux }

/-- The end of the `CopyTx` phase: `Samples(RAW)` is queued and the `Demux` phase begins (R255). -/
def doaQueueRaw (s : State) : StepOutcome :=
  orNoValue .raw (Store.readAll s.mem.raw s.cfg.signalLen) (fun batch =>
    .next { enqueueMessage (.samples batch) s with doaI := 0, doaPhase := .demux })

/-- A `CopyTx` step: one frame (R255). -/
def doaCopy (s : State) : StepOutcome :=
  orNoValue .buf (s.mem.readFrame s.doaSrc s.doaI) (fun f =>
    let t := { s with mem := s.mem.writeRaw s.doaI f, doaI := s.doaI + 1 }
    if s.doaI + 1 = s.cfg.signalLen then doaQueueRaw t else .next t)

/-- The end of a channel in the `Demux` phase: subtract the mean from every sample, clear the sum, and
go to the next channel, or release the batch and go to `Compute` after channel 3 (R256). -/
def doaEndChannel (s : State) : StepOutcome :=
  orNoValue .ch (Store.readAll (s.mem.ch.get s.doaC) s.cfg.signalLen) (fun xs =>
    let t := { s with
      mem := s.mem.setCh s.doaC (xs.map (removeMean (dcMean s.cfg.signalLen s.dmxSum)))
      dmxSum := 0
      doaI := 0 }
    if s.doaC = 3 then .next { releaseReference t with doaPhase := .compute }
    else .next { t with doaC := s.doaC + 1 })

/-- A `Demux` step: one sample, channel-major (R256). -/
def doaDemux (s : State) : StepOutcome :=
  orNoValue .buf (s.mem.readSample s.doaSrc s.doaI s.doaC) (fun v =>
    let t := { s with
      mem := s.mem.writeCh s.doaC s.doaI v
      dmxSum := s.dmxSum + v.signExtend 64
      doaI := s.doaI + 1 }
    if s.doaI + 1 = s.cfg.signalLen then doaEndChannel t else .next t)

/-- One axis of the `Compute` step: the lag and the bearing of its channel pair, and the goal (R257).
`DOA.LAG` holds the lag in 32 bits (10_state R26; log 15). -/
def doaAxis (a : Axis) (s : State) : StepOutcome :=
  withSeries s (.channel (s.cfg.pair a).1) (fun xs =>
    withSeries s (.channel (s.cfg.pair a).2) (fun ys =>
      let lag := peakLag s.cfg xs ys
      withAngle s (reducedLag s.cfg lag) (fun bearing =>
        .next (addOffset a bearing
          { correlate xs ys s with
            doaLag := s.doaLag.set a (BitVec.ofInt 32 lag)
            doaBearing := s.doaBearing.set a bearing }))))

/-- The `Compute` step: pan, then tilt; capture goes on if it was held; the task ends (R257). -/
def doaCompute (s : State) : StepOutcome :=
  thenDo (doaAxis .pan s) (fun s =>
    thenDo (doaAxis .tilt s) (fun s =>
      .next { s with capPaused := false, doaPhase := .idle }))

/-- `T_DOA`: the step of its phase; from `Idle` the start step (60_exceptions R282). -/
def execTDoa (s : State) : StepOutcome :=
  match s.doaPhase with
  | .idle => .next (doaStart s)
  | .copyTx => doaCopy s
  | .demux => doaDemux s
  | .compute => doaCompute s

/-! ### Levels 4 to 6 (R261 to R263) -/

/-- Apply an optional field of a `Command`. -/
def whenPresent {α : Type} (v : Option α) (act : α → State → State) (s : State) : State :=
  match v with
  | some x => act x s
  | none => s

/-- The status reply: the current angles, not the goals (R261). -/
def statusReply (s : State) : Message := .panTiltStatus s.srvCur.pan s.srvCur.tilt

/-- The device-side meaning of a `Command` (R261): pan, then tilt, then sampling, then always one
status reply. -/
def applyCommand (c : Command) (s : State) : State :=
  let s := whenPresent c.panDegrees (writeGoal .pan) s
  let s := whenPresent c.tiltDegrees (writeGoal .tilt) s
  let s := whenPresent c.samplingEnabled (fun en s => if en then startCapture s else stopCapture s) s
  enqueueMessage (statusReply s) s

/-- `T_COMMAND` (R261): the first `Command` of `CMDQ` is taken and applied. With none there is nothing
to run (log 12). -/
def execTCommand (s : State) : StepOutcome :=
  match s.cmdq with
  | [] => .next s
  | c :: rest => .next (applyCommand c { s with cmdq := rest })

/-- `T_SERVO_TICK` (R263): clear the bit and step both axes, pan first. -/
def execTServoTick (s : State) : StepOutcome :=
  .next (stepAxis .tilt (stepAxis .pan { s with pendStick := false }))

/-- `T_TRANSMIT` (R262): the first reply, or else the first sample Message, is framed and sent. With a
frame in flight or both queues empty there is nothing to run, and the Messages stay queued (log 12). -/
def execTTransmit (s : State) : StepOutcome :=
  if s.txBusy then .next s
  else
    match s.txqR, s.txqS with
    | m :: rest, _ => .next (startTransmit (frameOf m) { s with txqR := rest })
    | [], m :: rest => .next (startTransmit (frameOf m) { s with txqS := rest })
    | [], [] => .next s

end Sys2Proof.Machine
end

