-- ==== Sys2Proof/Machine/Messages.lean ====
section
/-! DEFINITION. The meanings of the four Messages at the device and of the four text commands
(spec/30_encoding.md R111, R118; spec/46_tasks.md R251, R261): a `Command` is applied, the other three,
received, are "decoded and discarded" (log 10). -/

namespace Sys2Proof.Machine

/-- A received `Sync`: discarded (R251). -/
def execSync (s : State) : StepOutcome := .next s

/-- A received `PanTiltStatus`: discarded (R251). -/
def execPanTiltStatus (_pan _tilt : Angle) (s : State) : StepOutcome := .next s

/-- A received `Samples`: discarded (R251). -/
def execSamples (batch : List Frame) (s : State) : StepOutcome :=
  ifWellFormed (batch.length == s.cfg.signalLen) (.next s)

/-- A `Command`: its device-side meaning (R261). -/
def execCommand (c : Command) (s : State) : StepOutcome := .next (applyCommand c s)

/-- `pan <deg>`: `Command{panDegrees = deg}` (R118). -/
def execTextPan (deg : Angle) (s : State) : StepOutcome :=
  .next (applyCommand ⟨some deg, none, none⟩ s)

/-- `tilt <deg>`: `Command{tiltDegrees = deg}` (R118). -/
def execTextTilt (deg : Angle) (s : State) : StepOutcome :=
  .next (applyCommand ⟨none, some deg, none⟩ s)

/-- `start`: `Command{samplingEnabled = true}` (R118). -/
def execTextStart (s : State) : StepOutcome := .next (applyCommand ⟨none, none, some true⟩ s)

/-- `stop`: `Command{samplingEnabled = false}` (R118). -/
def execTextStop (s : State) : StepOutcome := .next (applyCommand ⟨none, none, some false⟩ s)

end Sys2Proof.Machine
end

