-- ==== Sys2Proof/Machine/Dispatch.lean ====
section
/-! DEFINITION. The meaning of every instruction: one arm per row of spec/opcode_table.json. -/

namespace Sys2Proof.Machine

def exec (i : Instr) (s : State) : Host.Outcome State Fault Refusal :=
  match i with
  | .sync => Sys2Proof.Machine.execSync s
  | .panTiltStatus pan tilt => Sys2Proof.Machine.execPanTiltStatus pan tilt s
  | .samples batch => Sys2Proof.Machine.execSamples batch s
  | .command cmd => Sys2Proof.Machine.execCommand cmd s
  | .startSampling => Sys2Proof.Machine.execStartSampling s
  | .stopSampling => Sys2Proof.Machine.execStopSampling s
  | .tick f => Sys2Proof.Machine.execTick f s
  | .getNewestBatch => Sys2Proof.Machine.execGetNewestBatch s
  | .releaseBatch => Sys2Proof.Machine.execReleaseBatch s
  | .fromBatch batch => Sys2Proof.Machine.execFromBatch batch s
  | .xcorrReal x y => Sys2Proof.Machine.execXcorrReal x y s
  | .calcLag x y => Sys2Proof.Machine.execCalcLag x y s
  | .genLagTable => Sys2Proof.Machine.execGenLagTable s
  | .reduceLag lag => Sys2Proof.Machine.execReduceLag lag s
  | .lagToAngle lag => Sys2Proof.Machine.execLagToAngle lag s
  | .calcAngle chA chB => Sys2Proof.Machine.execCalcAngle chA chB s
  | .setGoal a degrees => Sys2Proof.Machine.execSetGoal a degrees s
  | .addGoalOffset a bearing => Sys2Proof.Machine.execAddGoalOffset a bearing s
  | .step a => Sys2Proof.Machine.execStep a s
  | .degToPulse a degrees => Sys2Proof.Machine.execDegToPulse a degrees s
  | .serialize msg => Sys2Proof.Machine.execSerialize msg s
  | .deserialize payload => Sys2Proof.Machine.execDeserialize payload s
  | .stuff payload => Sys2Proof.Machine.execStuff payload s
  | .unstuff body => Sys2Proof.Machine.execUnstuff body s
  | .encodeFrame msg => Sys2Proof.Machine.execEncodeFrame msg s
  | .feed input => Sys2Proof.Machine.execFeed input s
  | .send frame => Sys2Proof.Machine.execSend frame s
  | .enqueueTx msg => Sys2Proof.Machine.execEnqueueTx msg s
  | .sendSync => Sys2Proof.Machine.execSendSync s
  | .hCaptureComplete => Sys2Proof.Machine.execHCaptureComplete s
  | .hRx => Sys2Proof.Machine.execHRx s
  | .hTxComplete => Sys2Proof.Machine.execHTxComplete s
  | .tDoa => Sys2Proof.Machine.execTDoa s
  | .tCommand => Sys2Proof.Machine.execTCommand s
  | .tServoTick => Sys2Proof.Machine.execTServoTick s
  | .tTransmit => Sys2Proof.Machine.execTTransmit s
  | .textPan deg => Sys2Proof.Machine.execTextPan deg s
  | .textTilt deg => Sys2Proof.Machine.execTextTilt deg s
  | .textStart => Sys2Proof.Machine.execTextStart s
  | .textStop => Sys2Proof.Machine.execTextStop s

end Sys2Proof.Machine
end

