-- ==== Sys2Proof/Machine/Boot.lean ====
section
/-! DEFINITION. Reset and reset exit (spec/70_reset_and_hazards.md R310 to R313). -/

namespace Sys2Proof.Machine

/-- The constraints on one axis: `SERVO_MAX >= 1`, `0 <= SERVO_INIT <= SERVO_MAX`, `DOA_SIGN` is +1 or
-1 (R313). -/
def axisValid (c : Config) (a : Axis) : Bool :=
  decide (1 ≤ (c.servoMax.get a).toInt) && decide (0 ≤ (c.servoInit.get a).toInt) &&
    decide ((c.servoInit.get a).toInt ≤ (c.servoMax.get a).toInt) &&
    (c.doaSign.get a == 1 || c.doaSign.get a == -1)

/-- The configuration check (R313, 00_scope R6, R7). -/
def configValid (c : Config) : Bool :=
  decide (1 ≤ c.signalLen) && decide (c.signalLen ≤ 2 ^ 31) &&
    decide (1 ≤ c.xcorrLen) && decide (c.xcorrLen ≤ 2 * c.signalLen - 1) &&
    decide (1 ≤ c.tSUs) && decide (1 ≤ c.dMicsMm) && decide (1 ≤ c.vSound) &&
    (c.k == geometryK c) && decide (3 ≤ c.k) &&
    axisValid c .pan && axisValid c .tilt &&
    decide (15 ≤ c.nRx) &&
    decide (1 ≤ c.txqReplyCap) && decide (1 ≤ c.txqSamplesCap) && decide (1 ≤ c.cmdqCap) &&
    (c.pairPan.1 != c.pairPan.2) && (c.pairTilt.1 != c.pairTilt.2)

/-- Reset (R310): everything is discarded and the block is in reset. The configuration stays, being
hardwired (10_state R26); the model's own schedule and draw counter stay (log 25). -/
def enterReset (s : State) : State := State.resetWith s.cfg s.sched s.l2Draws

/-- Reset exit (R312), "taken before any other step of the block": check the configuration; then the
lag table and the reset values. `ConfigFault` keeps the block in reset (log 16). -/
def exitReset (s : State) : StepOutcome :=
  if configValid s.cfg then .next { enterReset s with inReset := false }
  else .refused .configFault

end Sys2Proof.Machine
end

