-- ==== Sys2Proof/Machine/Sequencer.lean ====
section
/-! DEFINITION. The dispatch rule of the processor agent and the moves of the environment
(spec/60_exceptions.md R274, R276, R282 to R286, R295). Entry saves nothing and switches no mode; a body
ends with its last statement (R285, R286). -/

namespace Sys2Proof.Machine

/-- Level 2 (R283): the one handler that is pending, or, with both pending, the one the choice names. -/
def level2Step (txFirst : Bool) (s : State) : StepOutcome :=
  if s.pendTxc && (txFirst || !pendRx s) then execHTxComplete s else execHRx s

/-- One step of the processor agent (R282): the next step of the runnable level with the smallest
number. With no level runnable it has no step and waits (R295). -/
def processorStep (txFirst : Bool) (s : State) : StepOutcome :=
  match topLevel s with
  | some .l1 => execHCaptureComplete s
  | some .l2 => level2Step txFirst s
  | some .l3 => execTDoa s
  | some .l4 => execTCommand s
  | some .l5 => execTServoTick s
  | some .l6 => execTTransmit s
  | none => .next s

/-- A turn of the processor agent that the schedule does not name: the order inside level 2 is a free
value, drawn when it matters (R283; log 5). -/
def unscheduledStep (s : State) : StepOutcome :=
  if level2Tie s then
    processorStep (Config.level2TxFirst s.l2Draws) { s with l2Draws := s.l2Draws + 1 }
  else processorStep true s

/-- Microphones and capture timer: `TICK(f)` (R274). While disarmed there is no such move, so a turn
that names it is refused (93 U21; log 11). -/
def tickMove (f : Frame) (s : State) : StepOutcome :=
  if tickEnabled s then execTick f s else .refused .moveNotEnabled

/-- Link, receive side: deliver a chunk (R274). -/
def deliverChunk (chunk : List Byte) (s : State) : State := { s with linkRxq := s.linkRxq ++ [chunk] }

/-- Servo tick source: `pend(STICK)`; a second tick before the task ran is merged (R274, R276). -/
def pendServoTick (s : State) : State := { s with pendStick := true }

/-- Link, transmit side: the bytes of `TX.BUF` go to `LINK.TX` and `TXC` is pended (R274). Outside its
enabling condition it is no move (log 11). -/
def drainLink (s : State) : StepOutcome :=
  if drainEnabled s then .next { s with linkTx := s.linkTx ++ s.txBuf, pendTxc := true }
  else .refused .moveNotEnabled

/-- A direct invocation whose bytes are no instruction: an illegal payload is the condition
`DeserError`, logged and discarded (30_encoding R105; log 24); anything else has no meaning (R110). -/
def badInvocation (l : Layer) (e : DecodeError) (s : State) : StepOutcome :=
  match l with
  | .payload => .next (diagnose .deserError s)
  | .operation => .refused (.undecodable e)
  | .text => .refused (.undecodable e)

end Sys2Proof.Machine
end

