-- ==== Sys2Proof/Machine/Fetch.lean ====
section
/-! DEFINITION. The turns of the schedule (spec/60_exceptions.md R274): the environment's moves, the
processor agent, and a direct invocation, whose bytes are decoded and executed (log 6). -/

namespace Sys2Proof.Machine

/-- Decode the bytes of a layer under the configuration of the state and execute the instruction. -/
def runInvocation (l : Layer) (bs : List Byte) (s : State) : StepOutcome :=
  match decode s.cfg.signalLen l bs with
  | .ok i => exec i s
  | .error e => badInvocation l e s

/-- Take one turn: a move of the environment, a turn of the processor agent (R274, R282), or a direct
invocation. -/
def runTurn (m : Move) (s : State) : StepOutcome :=
  match m with
  | .tick f => tickMove f s
  | .deliver chunk => .next (deliverChunk chunk s)
  | .drain => drainLink s
  | .servoTick => .next (pendServoTick s)
  | .hostSend c => .next (deliverChunk (frameOf (.command c)) s)
  | .hostReceive => .next s
  | .sendSync => execSendSync s
  | .reset => .next (enterReset s)
  | .processor txFirst => processorStep txFirst s
  | .invoke l bs => runInvocation l bs s

/-- Put a direct invocation at the head of the schedule of a block that has left reset. -/
def placeInvocation (l : Layer) (bs : List Byte) (s : State) : State :=
  { s with inReset := false, sched := .invoke l bs :: s.sched }

end Sys2Proof.Machine
end

