-- ==== Sys2Proof/Machine/Step.lean ====
section
/-! DEFINITION. One step of the block (spec/20_memory.md R69; spec/70_reset_and_hazards.md R312): reset
exit before anything else, then the turn the schedule names, then, with no turn named, the processor
agent. -/

namespace Sys2Proof.Machine

/-- One atomic step. -/
def step (s : State) : Host.Outcome State Fault Refusal :=
  if s.inReset then exitReset s
  else
    match s.sched with
    | [] => unscheduledStep s
    | m :: rest => runTurn m { s with sched := rest }

/-- The state in which the very next step runs the instruction of a table word (log 6, log 8). -/
def State.withFetchWord (s : State) (nbits w : Nat) : State :=
  placeInvocation (tableWordLayer nbits w) (tableWordBytes s.cfg.signalLen nbits w) s

end Sys2Proof.Machine
end

