-- ==== Sys2Proof/Machine/TextForm.lean ====
section
/-! DEFINITION. The written form of the text commands `pan <deg>`, `tilt <deg>`, `start`, `stop`
(spec/30_encoding.md R118; the number syntax is decision D48): a decimal integer with an optional
leading minus sign that fits 32 bits signed. Prompting, errors and white space belong to the host
(spec/00_scope.md R5). Texts are lists of characters. -/

namespace Sys2Proof.Machine

/-- The decimal form of an angle. -/
def printDegrees (deg : Angle) : List Char :=
  if deg.toInt < 0 then '-' :: Nat.toDigits 10 deg.toInt.natAbs
  else Nat.toDigits 10 deg.toInt.natAbs

/-- `pan <deg>`. -/
def printPan (deg : Angle) : List Char := ['p', 'a', 'n', ' '] ++ printDegrees deg

/-- `tilt <deg>`. -/
def printTilt (deg : Angle) : List Char := ['t', 'i', 'l', 't', ' '] ++ printDegrees deg

/-- `start`. -/
def printStart : List Char := ['s', 't', 'a', 'r', 't']

/-- `stop`. -/
def printStop : List Char := ['s', 't', 'o', 'p']

/-- Decimal digits after the value read so far. -/
def parseDigits : List Char → Nat → Option Nat
  | [], acc => some acc
  | ch :: rest, acc =>
    if '0'.toNat ≤ ch.toNat ∧ ch.toNat ≤ '9'.toNat then
      parseDigits rest (10 * acc + (ch.toNat - '0'.toNat))
    else none

/-- A non-empty run of decimal digits. -/
def parseNumber : List Char → Option Nat
  | [] => none
  | ch :: rest => parseDigits (ch :: rest) 0

/-- A decimal integer that fits 32 bits signed (D48). -/
def parseDegrees : List Char → Option Angle
  | '-' :: rest =>
    match parseNumber rest with
    | some n => if n ≤ 2 ^ 31 then some (BitVec.ofInt 32 (-(n : Int))) else none
    | none => none
  | text =>
    match parseNumber text with
    | some n => if n < 2 ^ 31 then some (BitVec.ofInt 32 n) else none
    | none => none

/-- The text command a line stands for, if it is one. -/
def parseText (line : List Char) : Option Instr :=
  match line with
  | 'p' :: 'a' :: 'n' :: ' ' :: rest => (parseDegrees rest).map .textPan
  | 't' :: 'i' :: 'l' :: 't' :: ' ' :: rest => (parseDegrees rest).map .textTilt
  | ['s', 't', 'a', 'r', 't'] => some .textStart
  | ['s', 't', 'o', 'p'] => some .textStop
  | _ => none

end Sys2Proof.Machine
end

