-- ==== Sys2Proof/Safety.lean ====
section
/-! DEFINITION. The terms the statements use: values of operands, exact arithmetic on integers, the
legality of a payload (spec/30_encoding.md R105), the invariant every step keeps, and the invariant of
the runs the spec allows (no direct invocation), under which nothing faults (spec/20_memory.md R70). -/

namespace Sys2Proof.Machine

/-! ### Outcomes -/

/-- The next state of an outcome, if it is one. -/
def nextOf (o : StepOutcome) : Option State :=
  match o with
  | .next s => some s
  | .fault _ => none
  | .refused _ => none

/-- The fault of an outcome, if it is one. -/
def faultOf (o : StepOutcome) : Option Fault :=
  match o with
  | .next _ => none
  | .fault r => some r
  | .refused _ => none

/-- The refusal of an outcome, if it is one. -/
def refusalOf (o : StepOutcome) : Option Refusal :=
  match o with
  | .next _ => none
  | .fault _ => none
  | .refused r => some r

/-! ### Operand values -/

/-- The samples a series operand stands for in a state, if it has them all. -/
def seriesValue (s : State) : SeriesRef → Option (List Sample)
  | .values xs => if xs.length = s.cfg.signalLen then some xs else none
  | .channel c => Store.readAll (s.mem.ch.get c) s.cfg.signalLen

/-- The frames a batch operand stands for in a state, if it has them all. -/
def batchValue (s : State) : BatchRef → Option (List Frame)
  | .values fs => if fs.length = s.cfg.signalLen then some fs else none
  | .buffer b => Store.readAll (s.mem.buf b) s.cfg.signalLen

/-! ### Exact arithmetic (00_scope R10, R11) -/

/-- `tdiv(a, b)` by the spec's formula: `sign(a)*sign(b)*floor(abs(a)/abs(b))`. -/
def exactTdiv (a b : Int) : Int := a.sign * b.sign * ((a.natAbs / b.natAbs : Nat) : Int)

/-- `sat16(v)` as an integer. -/
def exactSat16 (v : Int) : Int := if v < -32768 then -32768 else if v > 32767 then 32767 else v

/-- `clamp(v, lo, hi)`. -/
def exactClamp (v lo hi : Int) : Int := if v < lo then lo else if v > hi then hi else v

/-- The sum of the samples of one channel of a batch. -/
def exactChannelSum (batch : List Frame) (c : Fin 4) : Int := (batch.map (fun f => (f.get c).toInt)).sum

/-- Sample `i` of a series at an integer index: zero outside `[0, SIGNAL_LEN)` (42_xcorr R160). -/
def paddedSample (xs : List Sample) (i : Int) : Int :=
  if 0 ≤ i then (xs.getD i.toNat 0).toInt else 0

/-- `CORR[n]` as R160 and R162 give it: the sum over `m` of `x[m] * y[n + m - XCORR_LEN/2]`. -/
def exactCorr (len : Nat) (x y : List Sample) (n : Nat) : Int :=
  ((List.range x.length).map (fun (m : Nat) =>
    (x.getD m 0).toInt * paddedSample y ((n : Int) + m - ((len / 2 : Nat) : Int)))).sum

/-! ### Frames of the stores, element by element -/

/-- Every frame of `BUF` reads as before. -/
def keepsBuf (s t : State) : Prop := ∀ b i, t.mem.readFrame b i = s.mem.readFrame b i

/-- Every frame of `RAW` reads as before. -/
def keepsRaw (s t : State) : Prop := ∀ i, Store.read t.mem.raw i = Store.read s.mem.raw i

/-- Every sample of `CH` reads as before. -/
def keepsCh (s t : State) : Prop :=
  ∀ c i, Store.read (t.mem.ch.get c) i = Store.read (s.mem.ch.get c) i

/-- Every element of `CORR` reads as before. -/
def keepsCorr (s t : State) : Prop := ∀ i, Store.read t.mem.corr i = Store.read s.mem.corr i

/-! ### Commands (46_tasks R261) -/

/-- The effect of one `Command`: `t` is `s` after pan, tilt, sampling, and one status reply. -/
structure CommandApplied (c : Command) (s t : State) : Prop where
  /-- `SET_GOAL` for a field that is present. -/
  panGoal : ∀ v, c.panDegrees = some v →
    (t.srvGoal.get .pan).toInt = exactClamp v.toInt 0 (s.cfg.servoMax.get .pan).toInt
  panKept : c.panDegrees = none → t.srvGoal.get .pan = s.srvGoal.get .pan
  tiltGoal : ∀ v, c.tiltDegrees = some v →
    (t.srvGoal.get .tilt).toInt = exactClamp v.toInt 0 (s.cfg.servoMax.get .tilt).toInt
  tiltKept : c.tiltDegrees = none → t.srvGoal.get .tilt = s.srvGoal.get .tilt
  /-- `START_SAMPLING` of a stopped unit. -/
  started : c.samplingEnabled = some true → s.capEn = false →
    t.capEn = true ∧ t.capPaused = false ∧ t.capWr = 0 ∧ t.pendBatch = false
  /-- `STOP_SAMPLING`. -/
  stopped : c.samplingEnabled = some false →
    t.capEn = false ∧ t.capPaused = s.capPaused ∧ t.capWr = s.capWr ∧ t.pendBatch = s.pendBatch
  /-- No field, or a start of a started unit. -/
  captureKept : c.samplingEnabled = none ∨ (c.samplingEnabled = some true ∧ s.capEn = true) →
    t.capEn = s.capEn ∧ t.capPaused = s.capPaused ∧ t.capWr = s.capWr ∧ t.pendBatch = s.pendBatch
  /-- One status reply, with the current angles, or the drop mark when the queue is full. -/
  replied : s.txqR.length < s.cfg.txqReplyCap →
    t.txqR = s.txqR ++ [.panTiltStatus s.srvCur.pan s.srvCur.tilt] ∧ t.gTxDrop = s.gTxDrop
  dropped : s.cfg.txqReplyCap ≤ s.txqR.length → t.txqR = s.txqR ∧ t.gTxDrop = true
  /-- Nothing else. -/
  frame : t = { s with
    srvGoal := t.srvGoal, capEn := t.capEn, capPaused := t.capPaused, capWr := t.capWr,
    pendBatch := t.pendBatch, txqR := t.txqR, gTxDrop := t.gTxDrop }

/-! ### Payloads -/

/-- A byte that is `00` or `01` (R98). -/
def flagByte (b : Byte) : Bool := b == 0x00 || b == 0x01

/-- A legal `Command` payload (R96, R98, R100): presence bytes at their places, the boolean byte, and
exactly the length they imply. -/
def legalCommand (p : List Byte) : Bool :=
  let pan := p.getD 1 0xFF
  let tilt := p.getD (2 + 4 * pan.toNat) 0xFF
  let en := p.getD (3 + 4 * pan.toNat + 4 * tilt.toNat) 0xFF
  flagByte pan && flagByte tilt && flagByte en &&
    p.length == 4 + 4 * pan.toNat + 4 * tilt.toNat + en.toNat &&
    (en == 0x00 || flagByte (p.getD (4 + 4 * pan.toNat + 4 * tilt.toNat) 0xFF))

/-- A legal payload: none of the cases of R105. -/
def legalPayload (n : Nat) (p : List Byte) : Bool :=
  match p with
  | [] => false
  | tag :: _ =>
    if tag = 0x00 then p.length == 1
    else if tag = 0x01 then p.length == 9
    else if tag = 0x02 then p.length == 1 + 8 * n
    else if tag = 0x03 then legalCommand p
    else false

/-! ### Sequences of operations -/

/-- `STEP(a)` executed `n` times. -/
def stepTimes (a : Axis) : Nat → State → State
  | 0, s => s
  | n + 1, s => stepTimes a n (stepAxis a s)

/-- `FEED_ALL` once per chunk: all results but the closing `NeedMore`s, and the accumulator. -/
def feedChunks (c : Config) : List (List Byte) → List Byte → List FeedResult × List Byte
  | [], acc => ([], acc)
  | chunk :: rest, acc =>
    let out := feedAll c acc chunk
    let tail := feedChunks c rest out.2
    (out.1 ++ tail.1, tail.2)

/-- `k` steps of the machine, stopping at the first that is not a next state. -/
def stepMany : Nat → State → StepOutcome
  | 0, s => .next s
  | k + 1, s => thenDo (step s) (stepMany k)

/-- The number of a level, 1 the highest (60_exceptions R280). -/
def Level.number : Level → Nat
  | .l1 => 1
  | .l2 => 2
  | .l3 => 3
  | .l4 => 4
  | .l5 => 5
  | .l6 => 6

/-- The `Command`s among the results of `FEED_ALL`, in order. -/
def commandsIn (rs : List FeedResult) : List Command :=
  rs.filterMap (fun r =>
    match r with
    | .ready (.command c) => some c
    | .ready .sync => none
    | .ready (.panTiltStatus _ _) => none
    | .ready (.samples _) => none
    | .needMore => none
    | .overFull => none
    | .deserError => none)

/-- The codes `H_RX` appends to `DIAG` for the results of `FEED_ALL`, in their order, with room for
`room` more `Command`s in `CMDQ` (45_framing R227, 46_tasks R251): 1 `OverFull`, 2 `DeserError`, 6
`CmdDropped`. -/
def codesIn : Nat → List FeedResult → List Nat
  | _, [] => []
  | room, .overFull :: rs => 1 :: codesIn room rs
  | room, .deserError :: rs => 2 :: codesIn room rs
  | room, .needMore :: rs => codesIn room rs
  | 0, .ready (.command _) :: rs => 6 :: codesIn 0 rs
  | room + 1, .ready (.command _) :: rs => codesIn room rs
  | room, .ready .sync :: rs => codesIn room rs
  | room, .ready (.panTiltStatus _ _) :: rs => codesIn room rs
  | room, .ready (.samples _) :: rs => codesIn room rs

/-! ### The invariant every step keeps -/

/-- An angle within the travel of its axis (44_servo R195). -/
def inTravel (c : Config) (a : Axis) (v : Angle) : Prop :=
  0 ≤ v.toInt ∧ v.toInt ≤ (c.servoMax.get a).toInt

/-- Every listed index of a store is below a bound (20_memory R66). -/
def indexedBelow {α : Type} (n : Nat) (st : Store α) : Prop := ∀ e ∈ st, e.1 < n

/-- What holds in every state of a valid configuration, whatever the environment does and whatever is
invoked directly. -/
structure StepInv (s : State) : Prop where
  /-- 00_scope R7. -/
  cfgValid : configValid s.cfg = true
  /-- The canonical form of the stores. -/
  memWf : s.mem.wf = true
  /-- 20_memory R66: no store is written out of its bounds. -/
  bufBound : ∀ b, indexedBelow s.cfg.signalLen (s.mem.buf b)
  rawBound : indexedBelow s.cfg.signalLen s.mem.raw
  chBound : ∀ c, indexedBelow s.cfg.signalLen (s.mem.ch.get c)
  corrBound : indexedBelow s.cfg.xcorrLen s.mem.corr
  /-- 40_capture R130: `0 <= CAP.WR <= SIGNAL_LEN`. -/
  wrBound : s.capWr ≤ s.cfg.signalLen
  /-- 10_state R24: `DOA.I` is in `0..SIGNAL_LEN`. -/
  doaIBound : s.doaI ≤ s.cfg.signalLen
  /-- 10_state R24: `RX.FILL` is in `0..N_RX`. -/
  rxBound : rxFill s ≤ s.cfg.nRx
  /-- 44_servo R195. -/
  goalInTravel : ∀ a, inTravel s.cfg a (s.srvGoal.get a)
  /-- 44_servo R195. -/
  curInTravel : ∀ a, inTravel s.cfg a (s.srvCur.get a)
  /-- 44_servo R201: the pulse is always that of the current angle. -/
  pulseOfCur : ∀ a, s.srvPulse.get a = degToPulse s.cfg a (s.srvCur.get a).toInt
  /-- 20_memory R75: every lookup sees the table of the configuration. -/
  table : s.lagTab = genLagTable s.cfg
  /-- 10_state R26: `DOA.BEARING[a]` is in 0..180. -/
  bearingBound : ∀ a, (s.doaBearing.get a).toNat ≤ 180
  /-- 10_state R42: the queues within their capacities, `Samples` only in `TXQ.S`. -/
  replyCap : s.txqR.length ≤ s.cfg.txqReplyCap
  samplesCap : s.txqS.length ≤ s.cfg.txqSamplesCap
  cmdCap : s.cmdq.length ≤ s.cfg.cmdqCap
  replyKind : ∀ m ∈ s.txqR, isSamples m = false
  samplesKind : ∀ m ∈ s.txqS, isSamples m = true ∧ m.wellFormed s.cfg.signalLen = true

/-! ### The invariant of the spec's own runs -/

/-- Every one of the first `n` elements of a store has a value. -/
def written {α : Type} (st : Store α) (n : Nat) : Prop := ∀ i, i < n → (Store.read st i).isSome = true

/-- A series operand is a channel with an element that nothing has written. -/
def readsUnwritten (s : State) : SeriesRef → Prop
  | .values _ => False
  | .channel c => ¬ written (s.mem.ch.get c) s.cfg.signalLen

/-- The DoA task is reading a batch buffer. -/
def readingBatch (s : State) : Prop := s.doaPhase = .copyTx ∨ s.doaPhase = .demux

/-- What holds in every state the spec's own moves reach: `StepInv`, and what the order of handlers and
tasks adds. No direct invocation is scheduled: "The environment has no other move" (60_exceptions
R274). -/
structure RunInv (s : State) : Prop extends StepInv s where
  noInvoke : ∀ l bs, Move.invoke l bs ∉ s.sched
  /-- 40_capture R130: `PEND.BATCH = 1` implies `CAP.WR = SIGNAL_LEN`. -/
  batchPending : s.pendBatch = true → s.capWr = s.cfg.signalLen
  /-- The frames written since the destination was last pointed there. -/
  activeWritten : written (s.mem.buf s.capActive) s.capWr
  /-- 40_capture R130: `CAP.RDYV = 1` implies every element of `BUF[1 - CAP.ACTIVE]` is written. -/
  readyWritten : s.capRdyV = true → written (s.mem.buf (otherBuffer s.capActive)) s.cfg.signalLen
  /-- 20_memory R70: the batch the DoA task is to read, or reads, is written. -/
  newestWritten : s.pendDoa = true → written (s.mem.buf s.doaNewest) s.cfg.signalLen
  srcWritten : readingBatch s → written (s.mem.buf s.doaSrc) s.cfg.signalLen
  /-- The progress of the phases (46_tasks R255, R256). -/
  indexInside : readingBatch s → s.doaI < s.cfg.signalLen
  copyChannel : s.doaPhase = .copyTx → s.doaC = 0
  rawWritten : s.doaPhase = .copyTx → written s.mem.raw s.doaI
  chWritten : s.doaPhase = .demux → written (s.mem.ch.get s.doaC) s.doaI
  chDone : s.doaPhase = .demux → ∀ c, c < s.doaC → written (s.mem.ch.get c) s.cfg.signalLen
  chAll : s.doaPhase = .compute → ∀ c, written (s.mem.ch.get c) s.cfg.signalLen
  /-- 46_tasks R252: `PEND.TXC` with `TX.BUSY = 0` cannot arise. -/
  txcBusy : s.pendTxc = true → s.txBusy = true
  /-- 20_memory R71: while `G.OVERRUN = 0` the DoA task reads the ready buffer, never the active one. -/
  ownership : s.gOverrun = false → readingBatch s →
    s.capOut = true ∧ s.doaSrc = otherBuffer s.capActive ∧ s.pendDoa = false
  newestReady : s.gOverrun = false → s.pendDoa = true →
    s.capOut = true ∧ s.doaNewest = otherBuffer s.capActive
  /-- 46_tasks R258(d): with `PAUSE_FOR_DOA`, `G.OVERRUN` stays 0 ... -/
  pauseNoOverrun : s.cfg.pauseForDoa = true → s.gOverrun = false
  /-- ... because capture is held from the hand-over to the end of the run. -/
  pauseHeld : s.cfg.pauseForDoa = true → s.pendDoa = true ∨ s.doaPhase ≠ .idle → s.capPaused = true
  pauseNoBatch : s.cfg.pauseForDoa = true → s.capPaused = true → s.pendBatch = false
  pauseOneRun : s.cfg.pauseForDoa = true → s.doaPhase ≠ .idle → s.pendDoa = false
  pauseOut : s.cfg.pauseForDoa = true → s.capOut = true → s.pendDoa = true ∨ readingBatch s

end Sys2Proof.Machine
end

