-- ==== Sys2Proof/Certificates/Slice0/Obligations.lean ====
section
/-! DEFINITION. The statements for the provers (OBLIGATIONS.json). Each names the rule of spec/ it comes
from; "log n" is notes/assumptions/n.md. -/

open Sys2Proof Sys2Proof.Machine

/-- O1 (stated: R131). START_SAMPLING arms a stopped unit and discards the partial batch; on a
started unit it does nothing. -/
def Obligations.StartSamplingArms : Prop :=
  ∀ s : State,
    (s.capEn = false → exec .startSampling s =
      .next { s with capEn := true, capPaused := false, capWr := 0, pendBatch := false }) ∧
    (s.capEn = true → exec .startSampling s = .next s)

/-- O2 (stated: R133, R135). STOP_SAMPLING clears CAP.EN and RELEASE_BATCH clears CAP.OUT, and
nothing else; ticks after a stop change nothing. -/
def Obligations.StopAndReleaseClear : Prop :=
  ∀ (s : State) (f : Frame),
    exec .stopSampling s = .next { s with capEn := false } ∧
    (s.capEn = false → exec .stopSampling s = .next s) ∧
    exec (.tick f) { s with capEn := false } = .next { s with capEn := false } ∧
    exec .releaseBatch s = .next { s with capOut := false } ∧
    (s.capOut = false → exec .releaseBatch s = .next s)

/-- O3 (stated: R132). TICK writes one whole frame at BUF[CAP.ACTIVE][CAP.WR], or loses it when the
buffer is full, or changes nothing when not enabled. -/
def Obligations.TickWritesOneFrame : Prop :=
  ∀ (s : State) (f : Frame),
    (s.capEn = true → s.capPaused = false → s.capWr < s.cfg.signalLen →
      ∃ t, exec (.tick f) s = .next t ∧
        t = { s with
          mem := t.mem
          capWr := s.capWr + 1
          pendBatch := if s.capWr + 1 = s.cfg.signalLen then true else s.pendBatch } ∧
        (∀ b i, t.mem.readFrame b i =
          if b = s.capActive ∧ i = s.capWr then some f else s.mem.readFrame b i) ∧
        keepsRaw s t ∧ keepsCh s t ∧ keepsCorr s t) ∧
    (s.capEn = true → s.capPaused = false → s.cfg.signalLen ≤ s.capWr →
      exec (.tick f) s = .next { s with gGap := true }) ∧
    (s.capEn = false ∨ s.capPaused = true → exec (.tick f) s = .next s)

/-- O4 (stated: R134). GET_NEWEST_BATCH swaps the buffers and returns the full one, or returns none
and changes nothing. -/
def Obligations.NewestBatchSwaps : Prop :=
  ∀ s : State,
    (s.capWr = s.cfg.signalLen → ∃ other : Fin 2, other ≠ s.capActive ∧
      exec .getNewestBatch s = .next { s with
        gOverrun := if s.capOut then true else s.gOverrun
        capActive := other
        capWr := 0
        capRdyV := true
        capOut := true
        ret := .batch (some s.capActive) }) ∧
    (s.capWr ≠ s.cfg.signalLen → exec .getNewestBatch s = .next { s with ret := .batch none })

/-- O5 (stated: R150). FROM_BATCH leaves in CH the four series minus their truncated means,
saturated, in exact integer arithmetic. -/
def Obligations.FromBatchRemovesMean : Prop :=
  ∀ (s : State) (b : BatchRef) (batch : List Frame), batchValue s b = some batch →
    1 ≤ s.cfg.signalLen → s.cfg.signalLen ≤ 2 ^ 31 →
    ∃ t, exec (.fromBatch b) s = .next t ∧
      t = { s with mem := t.mem, dmxSum := t.dmxSum } ∧
      (∀ (c : Fin 4) (i : Nat) (f : Frame), batch[i]? = some f →
        ∃ v, Store.read (t.mem.ch.get c) i = some v ∧
          v.toInt = exactSat16 ((f.get c).toInt -
            exactTdiv (exactChannelSum batch c) s.cfg.signalLen)) ∧
      (∀ (c : Fin 4) (i : Nat), s.cfg.signalLen ≤ i → Store.read (t.mem.ch.get c) i = none) ∧
      t.dmxSum.toInt = exactChannelSum batch 3 ∧
      keepsBuf s t ∧ keepsRaw s t ∧ keepsCorr s t

/-- O6 (stated: R160). XCORR_REAL leaves in CORR the exact zero-padded sums of products, whatever
CORR held before. -/
def Obligations.XcorrRealIsExact : Prop :=
  ∀ (s : State) (x y : SeriesRef) (xs ys : List Sample),
    seriesValue s x = some xs → seriesValue s y = some ys → s.cfg.signalLen ≤ 2 ^ 31 →
    ∃ t, exec (.xcorrReal x y) s = .next t ∧
      t = { s with mem := t.mem } ∧
      (∀ n, n < s.cfg.xcorrLen → ∃ v, Store.read t.mem.corr n = some v ∧
        v.toInt = exactCorr s.cfg.xcorrLen xs ys n) ∧
      (∀ n, s.cfg.xcorrLen ≤ n → Store.read t.mem.corr n = none) ∧
      keepsBuf s t ∧ keepsRaw s t ∧ keepsCh s t

/-- O7 (derived: 42_xcorr.md R162). The centre element of CORR is the zero-lag dot product of the
two series. -/
def Obligations.CorrCentreIsDotProduct : Prop :=
  ∀ (s : State) (x y : SeriesRef) (xs ys : List Sample),
    seriesValue s x = some xs → seriesValue s y = some ys →
    1 ≤ s.cfg.xcorrLen → s.cfg.signalLen ≤ 2 ^ 31 →
    ∃ t v, exec (.xcorrReal x y) s = .next t ∧
      Store.read t.mem.corr (s.cfg.xcorrLen / 2) = some v ∧
      v.toInt = (List.zipWith (fun (a b : Sample) => a.toInt * b.toInt) xs ys).sum

/-- O8 (stated: R163). CALC_LAG runs XCORR_REAL and returns the first index of the maximum minus
XCORR_LEN/2. -/
def Obligations.CalcLagIsFirstMaximum : Prop :=
  ∀ (s : State) (x y : SeriesRef) (xs ys : List Sample),
    seriesValue s x = some xs → seriesValue s y = some ys → configValid s.cfg = true →
    ∃ t u lag best, exec (.calcLag x y) s = .next t ∧ exec (.xcorrReal x y) s = .next u ∧
      t = { s with mem := u.mem, ret := .lag lag } ∧
      best < s.cfg.xcorrLen ∧
      lag = (best : Int) - ((s.cfg.xcorrLen / 2 : Nat) : Int) ∧
      (∀ n, n < best → exactCorr s.cfg.xcorrLen xs ys n < exactCorr s.cfg.xcorrLen xs ys best) ∧
      (∀ n, n < s.cfg.xcorrLen →
        exactCorr s.cfg.xcorrLen xs ys n ≤ exactCorr s.cfg.xcorrLen xs ys best)

/-- O9 (stated: R175). GEN_LAG_TABLE stores for each lag the smallest degree whose COSTAB entry is
at most cosTheta, 0 if there is none. -/
def Obligations.GenLagTableEntries : Prop :=
  ∀ s : State, ∃ t, exec .genLagTable s = .next t ∧
      t = { s with lagTab := t.lagTab } ∧ t.lagTab.length = s.cfg.k ∧
      ∀ j, j < s.cfg.k → ∃ d : Byte, t.lagTab[j]? = some d ∧
        ∃ target : Int, target = exactTdiv
            (((j : Int) - ((s.cfg.k / 2 : Nat) : Int)) * s.cfg.tSUs * s.cfg.vSound) s.cfg.dMicsMm ∧
          ((∃ cos, costab[d.toNat]? = some cos ∧ cos ≤ target ∧
              ∀ e < d.toNat, ∃ higher, costab[e]? = some higher ∧ target < higher) ∨
            (d = 0 ∧ ∀ cos ∈ costab, target < cos))

/-- O10 (derived: 43_angle.md R178). For every valid configuration the lag table has bearing 90 in
its centre, no entry above 179, never the default, and is non-increasing. -/
def Obligations.LagTableOfValidConfig : Prop :=
  ∀ c : Config, configValid c = true →
    c.k % 2 = 1 ∧
    (∀ j, j < c.k → -1000 ≤ cosTheta c ((j : Int) - ((c.k / 2 : Nat) : Int)) ∧
      cosTheta c ((j : Int) - ((c.k / 2 : Nat) : Int)) ≤ 1000) ∧
    (∀ j, j < c.k → ∃ d, (genLagTable c)[j]? = some d ∧ d.toNat ≤ 179) ∧
    (genLagTable c)[c.k / 2]? = some 90 ∧
    (∀ (i j : Nat) (d e : Byte), i ≤ j → (genLagTable c)[i]? = some d →
      (genLagTable c)[j]? = some e → e.toNat ≤ d.toNat)

/-- O11 (stated: R179). REDUCE_LAG folds an out-of-range lag with the remainder that has the sign of
the dividend, into the window, and returns an in-range lag unchanged. -/
def Obligations.ReduceLagFolds : Prop :=
  ∀ (s : State) (lag half : Int), 3 ≤ s.cfg.k → half = ((s.cfg.k / 2 : Nat) : Int) →
    ∃ lag' : Int, exec (.reduceLag lag) s = .next { s with ret := .lag lag' } ∧
      (-half ≤ lag → lag ≤ half → lag' = lag) ∧
      (half < lag → lag' = -half + (lag - half * exactTdiv lag half) ∧ -half ≤ lag' ∧ lag' ≤ -1) ∧
      (lag < -half →
        lag' = half + (lag - -half * exactTdiv lag (-half)) ∧ 1 ≤ lag' ∧ lag' ≤ half)

/-- O12 (stated: R180). LAG_TO_ANGLE returns LAGTAB[lag + K/2] inside the window and is refused
outside it. -/
def Obligations.LagToAngleReadsTable : Prop :=
  ∀ (s : State) (lag : Int),
    (∀ d, -((s.cfg.k / 2 : Nat) : Int) ≤ lag → lag ≤ ((s.cfg.k / 2 : Nat) : Int) →
      s.lagTab[(lag + ((s.cfg.k / 2 : Nat) : Int)).toNat]? = some d →
      exec (.lagToAngle lag) s = .next { s with ret := .degree d }) ∧
    (lag < -((s.cfg.k / 2 : Nat) : Int) ∨ ((s.cfg.k / 2 : Nat) : Int) < lag →
      exec (.lagToAngle lag) s = .refused .lagOutsideWindow) ∧
    (configValid s.cfg = true → s.lagTab = genLagTable s.cfg →
      (-((s.cfg.k / 2 : Nat) : Int) ≤ lag → lag ≤ ((s.cfg.k / 2 : Nat) : Int) →
        ∃ d, d.toNat ≤ 180 ∧ exec (.lagToAngle lag) s = .next { s with ret := .degree d }) ∧
      exec (.lagToAngle 0) s = .next { s with ret := .degree 90 })

/-- O13 (stated: R181). CALC_ANGLE is CALC_LAG, then REDUCE_LAG, then LAG_TO_ANGLE, and completes
for every two series under a valid configuration with its table. -/
def Obligations.CalcAngleComposes : Prop :=
  ∀ (s : State) (x y : SeriesRef),
    (∀ (u v w : State) (lag lag' : Int), exec (.calcLag x y) s = .next u → u.ret = .lag lag →
      exec (.reduceLag lag) u = .next v → v.ret = .lag lag' →
      exec (.lagToAngle lag') v = .next w → exec (.calcAngle x y) s = .next w) ∧
    (∀ xs ys, seriesValue s x = some xs → seriesValue s y = some ys →
      configValid s.cfg = true → s.lagTab = genLagTable s.cfg →
      ∃ t u d, exec (.calcAngle x y) s = .next t ∧ exec (.xcorrReal x y) s = .next u ∧
        d.toNat ≤ 180 ∧ t = { s with mem := u.mem, ret := .degree d })

/-- O14 (stated: R196). SET_GOAL records the clamped request as the goal of its axis and moves
nothing. -/
def Obligations.SetGoalClamps : Prop :=
  ∀ (s : State) (a : Axis) (degrees : Angle),
    ∃ t, exec (.setGoal a degrees) s = .next t ∧ t = { s with srvGoal := t.srvGoal } ∧
      (t.srvGoal.get a).toInt = exactClamp degrees.toInt 0 (s.cfg.servoMax.get a).toInt ∧
      ∀ b, b ≠ a → t.srvGoal.get b = s.srvGoal.get b

/-- O15 (stated: R199). ADD_GOAL_OFFSET sets the goal to the current angle plus DOA_SIGN times
(bearing - 90), clamped. -/
def Obligations.AddGoalOffsetFromCurrent : Prop :=
  ∀ (s : State) (a : Axis) (bearing : Byte), bearing.toNat ≤ 180 →
    ∃ t, exec (.addGoalOffset a bearing) s = .next t ∧ t = { s with srvGoal := t.srvGoal } ∧
      (t.srvGoal.get a).toInt = exactClamp
        ((s.srvCur.get a).toInt + s.cfg.doaSign.get a * ((bearing.toNat : Int) - 90))
        0 (s.cfg.servoMax.get a).toInt ∧
      (∀ b, b ≠ a → t.srvGoal.get b = s.srvGoal.get b) ∧
      (bearing = 90 → inTravel s.cfg a (s.srvCur.get a) → t.srvGoal.get a = s.srvCur.get a)

/-- O16 (stated: R198). STEP moves the current angle one degree toward the goal, rewrites the pulse,
and reaches the goal after exactly the distance in steps. -/
def Obligations.StepMovesOneDegree : Prop :=
  ∀ (s : State) (a : Axis),
    (∃ t, exec (.step a) s = .next t ∧ t = { s with srvCur := t.srvCur, srvPulse := t.srvPulse } ∧
      (t.srvCur.get a).toInt =
        (if (s.srvCur.get a).toInt < (s.srvGoal.get a).toInt then (s.srvCur.get a).toInt + 1
         else if (s.srvGoal.get a).toInt < (s.srvCur.get a).toInt then (s.srvCur.get a).toInt - 1
         else (s.srvCur.get a).toInt) ∧
      exec (.degToPulse a (t.srvCur.get a).toInt) s =
        .next { s with ret := .pulse (t.srvPulse.get a) } ∧
      (∀ b, b ≠ a → t.srvCur.get b = s.srvCur.get b ∧ t.srvPulse.get b = s.srvPulse.get b) ∧
      (s.srvPulse.get a = degToPulse s.cfg a (s.srvCur.get a).toInt →
        s.srvCur.get a = s.srvGoal.get a → t = s)) ∧
    ∀ n : Nat,
      (((stepTimes a n s).srvCur.get a).toInt - (s.srvGoal.get a).toInt).natAbs =
        ((s.srvCur.get a).toInt - (s.srvGoal.get a).toInt).natAbs - n ∧
      (((s.srvCur.get a).toInt - (s.srvGoal.get a).toInt).natAbs ≤ n →
        (stepTimes a n s).srvCur.get a = s.srvGoal.get a)

/-- O17 (stated: R200). DEG_TO_PULSE clamps, multiplies, divides truncating toward zero, and meets
both calibration points. -/
def Obligations.DegToPulseIsAffine : Prop :=
  ∀ (s : State) (a : Axis) (degrees : Int), 1 ≤ (s.cfg.servoMax.get a).toInt →
    (∃ p : Angle, exec (.degToPulse a degrees) s = .next { s with ret := .pulse p } ∧
      p.toInt = (s.cfg.pulse0.get a).toInt + exactTdiv
        (exactClamp degrees 0 (s.cfg.servoMax.get a).toInt *
          ((s.cfg.pulseMax.get a).toInt - (s.cfg.pulse0.get a).toInt))
        (s.cfg.servoMax.get a).toInt) ∧
    exec (.degToPulse a 0) s = .next { s with ret := .pulse (s.cfg.pulse0.get a) } ∧
    exec (.degToPulse a (s.cfg.servoMax.get a).toInt) s =
      .next { s with ret := .pulse (s.cfg.pulseMax.get a) }

/-- O18 (stated: R93, R94, R95). SERIALIZE gives Sync, PanTiltStatus and Samples the tag, the length
and the field bytes of their format tables. -/
def Obligations.SerializeLayouts : Prop :=
  ∀ s : State,
    exec (.serialize .sync) s = .next { s with ret := .bytes [0x00] } ∧
    (∀ pan tilt : Angle, ∃ p, exec (.serialize (.panTiltStatus pan tilt)) s =
        .next { s with ret := .bytes p } ∧ p.length = 9 ∧ p[0]? = some 0x01 ∧
      (p.getD 1 0).toNat + 256 * (p.getD 2 0).toNat + 65536 * (p.getD 3 0).toNat +
        16777216 * (p.getD 4 0).toNat = pan.toNat ∧
      (p.getD 5 0).toNat + 256 * (p.getD 6 0).toNat + 65536 * (p.getD 7 0).toNat +
        16777216 * (p.getD 8 0).toNat = tilt.toNat) ∧
    (∀ batch : List Frame, batch.length = s.cfg.signalLen →
      ∃ p, exec (.serialize (.samples batch)) s = .next { s with ret := .bytes p } ∧
        p.length = 1 + 8 * s.cfg.signalLen ∧ p[0]? = some 0x02 ∧
        ∀ (i : Nat) (c : Fin 4) (f : Frame), batch[i]? = some f →
          (p.getD (1 + 8 * i + 2 * c.val) 0).toNat +
            256 * (p.getD (2 + 8 * i + 2 * c.val) 0).toNat = (f.get c).toNat)

/-- O19 (stated: R96). SERIALIZE of a Command is tag 03, then each field as a presence byte and, if
present, its value; 4 to 13 bytes. -/
def Obligations.SerializeCommandLayout : Prop :=
  ∀ (s : State) (c : Command), ∃ p pan tilt en : List Byte,
    exec (.serialize (.command c)) s = .next { s with ret := .bytes p } ∧
    p = 0x03 :: (pan ++ tilt ++ en) ∧
    (c.panDegrees = none → pan = [0x00]) ∧ (c.tiltDegrees = none → tilt = [0x00]) ∧
    (∀ v, c.panDegrees = some v → ∃ b0 b1 b2 b3 : Byte, pan = [0x01, b0, b1, b2, b3] ∧
      b0.toNat + 256 * b1.toNat + 65536 * b2.toNat + 16777216 * b3.toNat = v.toNat) ∧
    (∀ v, c.tiltDegrees = some v → ∃ b0 b1 b2 b3 : Byte, tilt = [0x01, b0, b1, b2, b3] ∧
      b0.toNat + 256 * b1.toNat + 65536 * b2.toNat + 16777216 * b3.toNat = v.toNat) ∧
    (c.samplingEnabled = none → en = [0x00]) ∧
    (c.samplingEnabled = some false → en = [0x01, 0x00]) ∧
    (c.samplingEnabled = some true → en = [0x01, 0x01]) ∧
    4 ≤ p.length ∧ p.length ≤ 13

/-- O20 (derived: 45_framing.md R216, 45_framing.md R217). DESERIALIZE of SERIALIZE gives every
Message back, and SERIALIZE of a successful DESERIALIZE gives the payload back. -/
def Obligations.MessagesSurviveTheWire : Prop :=
  ∀ n : Nat,
    (∀ m : Message, m.wellFormed n = true → deserialize n (serialize m) = .ok m) ∧
    (∀ (p : List Byte) (m : Message), deserialize n p = .ok m →
      m.wellFormed n = true ∧ serialize m = p)

/-- O21 (stated: R105). DESERIALIZE returns a Message exactly for a legal payload, DeserError for
any other, and changes no other state. -/
def Obligations.DeserializeErrorsExactlyOnIllegal : Prop :=
  ∀ (s : State) (p : List Byte),
    (legalPayload s.cfg.signalLen p = true → ∃ m, serialize m = p ∧
      exec (.deserialize p) s = .next { s with ret := .message m }) ∧
    (legalPayload s.cfg.signalLen p = false →
      exec (.deserialize p) s = .next { s with ret := .condition .deserError })

/-- O22 (stated: R218). STUFF cuts a payload into blocks: at a zero, after 254 non-zero bytes, and
at the end. -/
def Obligations.StuffFollowsItsBlocks : Prop :=
  ∀ (s : State) (p : List Byte),
    (∃ b, exec (.stuff p) s = .next { s with ret := .bytes b } ∧ b = stuffBytes p ∧
      (∀ v ∈ b, v ≠ 0x00) ∧ p.length + 1 ≤ b.length ∧
      b.length ≤ p.length + 1 + p.length / 254 ∧
      exec (.unstuff b) s = .next { s with ret := .bytes p }) ∧
    ∀ block tail : List Byte, (∀ v ∈ block, v ≠ 0x00) →
      (block.length = 254 → stuffBytes (block ++ tail) = 0xFF :: (block ++ stuffBytes tail)) ∧
      (block.length < 254 → ∃ code : Byte, code.toNat = block.length + 1 ∧
        stuffBytes (block ++ 0x00 :: tail) = code :: (block ++ stuffBytes tail) ∧
        stuffBytes block = code :: block)

/-- O23 (stated: R219). UNSTUFF copies block by block, puts a 00 between blocks unless the code is
FF, and reports an empty body or a block that runs past the end. -/
def Obligations.UnstuffFollowsItsBlocks : Prop :=
  ∀ (s : State) (body : List Byte), (∀ v ∈ body, v ≠ 0x00) →
    (∀ p, unstuffBytes body = some p → exec (.unstuff body) s = .next { s with ret := .bytes p }) ∧
    (unstuffBytes body = none →
      exec (.unstuff body) s = .next { s with ret := .condition .deserError }) ∧
    (body = [] → unstuffBytes body = none) ∧
    ∀ (code : Byte) (rest : List Byte), body = code :: rest →
      (rest.length < code.toNat - 1 → unstuffBytes body = none) ∧
      (rest.length = code.toNat - 1 → unstuffBytes body = some rest) ∧
      (code.toNat - 1 < rest.length → unstuffBytes body =
        (unstuffBytes (rest.drop (code.toNat - 1))).map (fun out =>
          rest.take (code.toNat - 1) ++ (if code.toNat < 255 then 0x00 :: out else out)))

/-- O24 (stated: R220). ENCODE_FRAME returns STUFF(SERIALIZE(msg)) followed by the delimiter, of a
well-formed Message. -/
def Obligations.EncodeFrameIsStuffedPayload : Prop :=
  ∀ (s : State) (m : Message), m.wellFormed s.cfg.signalLen = true →
    ∃ p b, exec (.serialize m) s = .next { s with ret := .bytes p } ∧
      exec (.stuff p) s = .next { s with ret := .bytes b } ∧
      exec (.encodeFrame m) s = .next { s with ret := .bytes (b ++ [0x00]) }

/-- O25 (stated: R226). FEED: the cases of an empty input, a delimiter that fits or does not, and no
delimiter that fits or does not. -/
def Obligations.FeedCases : Prop :=
  ∀ (s : State) (input : List Byte), rxFill s ≤ s.cfg.nRx →
    (input = [] → exec (.feed input) s = .next { s with ret := .feed .needMore [] }) ∧
    (∀ before rest, input = before ++ 0x00 :: rest → (∀ v ∈ before, v ≠ 0x00) →
      rxFill s + before.length + 1 ≤ s.cfg.nRx →
      (∀ p m, unstuffBytes (s.rxAcc ++ before) = some p → deserialize s.cfg.signalLen p = .ok m →
        exec (.feed input) s = .next { s with rxAcc := [], ret := .feed (.ready m) rest }) ∧
      (unstuffBytes (s.rxAcc ++ before) = none ∨ (∃ p e,
          unstuffBytes (s.rxAcc ++ before) = some p ∧ deserialize s.cfg.signalLen p = .error e) →
        exec (.feed input) s = .next { s with rxAcc := [], ret := .feed .deserError rest })) ∧
    (∀ before rest, input = before ++ 0x00 :: rest → (∀ v ∈ before, v ≠ 0x00) →
      s.cfg.nRx < rxFill s + before.length + 1 →
      exec (.feed input) s = .next { s with rxAcc := [], ret := .feed .overFull rest }) ∧
    (input ≠ [] → (∀ v ∈ input, v ≠ 0x00) → rxFill s + input.length ≤ s.cfg.nRx →
      exec (.feed input) s =
        .next { s with rxAcc := s.rxAcc ++ input, ret := .feed .needMore [] }) ∧
    (input ≠ [] → (∀ v ∈ input, v ≠ 0x00) → s.cfg.nRx < rxFill s + input.length →
      exec (.feed input) s = .next { s with
        rxAcc := [], ret := .feed .overFull (input.drop (s.cfg.nRx - rxFill s)) })

/-- O26 (stated: R227). FEED_ALL is the loop of the rule: FEED, stop at NeedMore, otherwise record
the result and go on with the remaining input. -/
def Obligations.FeedAllIsTheLoop : Prop :=
  ∀ c : Config, 1 ≤ c.nRx → ∀ acc chunk : List Byte,
    feedAll c acc [] = ([], acc) ∧
    ((feedStep c acc chunk).result = .needMore →
      feedAll c acc chunk = ([], (feedStep c acc chunk).acc)) ∧
    ((feedStep c acc chunk).result ≠ .needMore →
      feedAll c acc chunk =
        ((feedStep c acc chunk).result ::
            (feedAll c (feedStep c acc chunk).acc (feedStep c acc chunk).remaining).1,
          (feedAll c (feedStep c acc chunk).acc (feedStep c acc chunk).remaining).2)) ∧
    ∀ s : State, feedChunk [] s = s ∧ handleResult .overFull s = { s with diag := s.diag ++ [1] } ∧
      handleResult .deserError s = { s with diag := s.diag ++ [2] } ∧
      ∀ m, handleResult (.ready m) s = deliverMessage m s

/-- O27 (derived: 45_framing.md R228, 20_memory.md R64). A frame that fits N_RX, fed in any chunks
to an empty accumulator, delivers its Message exactly once and nothing else. -/
def Obligations.FrameDeliveredOnceInAnyChunks : Prop :=
  ∀ (c : Config) (m : Message), m.wellFormed c.signalLen = true →
    (∀ chunks : List (List Byte), (frameOf m).length ≤ c.nRx → chunks.flatten = frameOf m →
      feedChunks c chunks [] = ([.ready m], [])) ∧
    (∀ (chunks : List (List Byte)) (acc : List Byte), (∀ v ∈ chunks.flatten, v ≠ 0x00) →
      1 ≤ c.nRx → ∀ r ∈ (feedChunks c chunks acc).1, r = .overFull)

/-- O28 (stated: R230). SEND starts a transmission when none is in flight, else reports TxBusy and
changes nothing; only H_TX_COMPLETE ends a flight. -/
def Obligations.SendIsSingleFlight : Prop :=
  ∀ s : State,
    (∀ frame : List Byte, frame.getLast? = some 0x00 →
      (s.txBusy = false → exec (.send frame) s =
        .next { s with txBusy := true, txBuf := frame, ret := .ok }) ∧
      (s.txBusy = true → exec (.send frame) s = .next { s with ret := .condition .txBusy })) ∧
    ∀ i t, exec i s = .next t → s.txBusy = true →
      t.txBuf = s.txBuf ∧ (t.txBusy = false → i = .hTxComplete)

/-- O29 (stated: R259, R260). ENQUEUE_TX appends to the queue of the Message's kind or drops it with
G.TXDROP; SEND_SYNC is ENQUEUE_TX(Sync). -/
def Obligations.EnqueueDropsWhenFull : Prop :=
  ∀ s : State,
    (∀ batch, batch.length = s.cfg.signalLen →
      (s.txqS.length < s.cfg.txqSamplesCap → exec (.enqueueTx (.samples batch)) s =
        .next { s with txqS := s.txqS ++ [.samples batch] }) ∧
      (s.cfg.txqSamplesCap ≤ s.txqS.length → exec (.enqueueTx (.samples batch)) s =
        .next { s with gTxDrop := true })) ∧
    (∀ m, (∀ batch, m ≠ .samples batch) →
      (s.txqR.length < s.cfg.txqReplyCap → exec (.enqueueTx m) s =
        .next { s with txqR := s.txqR ++ [m] }) ∧
      (s.cfg.txqReplyCap ≤ s.txqR.length → exec (.enqueueTx m) s =
        .next { s with gTxDrop := true })) ∧
    exec .sendSync s = exec (.enqueueTx .sync) s ∧ ∃ t, exec .sendSync s = .next t

/-- O30 (stated: R251). H_RX takes one chunk, feeds it, queues the Commands that fit in order, drops
and logs the others, logs the errors in their order, discards the rest. -/
def Obligations.ReceiveHandlerFeedsOneChunk : Prop :=
  ∀ (s : State) (chunk : List Byte) (rest : List (List Byte)), s.linkRxq = chunk :: rest →
    s.cmdq.length ≤ s.cfg.cmdqCap →
    ∃ t results, exec .hRx s = .next t ∧
      (results, t.rxAcc) = feedAll s.cfg s.rxAcc chunk ∧
      t = { s with
        linkRxq := rest
        rxAcc := t.rxAcc
        cmdq := s.cmdq ++ (commandsIn results).take (s.cfg.cmdqCap - s.cmdq.length)
        diag := s.diag ++ codesIn (s.cfg.cmdqCap - s.cmdq.length) results
        gCmdDrop := if s.cfg.cmdqCap < s.cmdq.length + (commandsIn results).length then true
          else s.gCmdDrop }

/-- O31 (stated: R252). H_TX_COMPLETE clears PEND.TXC and TX.BUSY and nothing else; the link pends
TXC only while a frame is in flight. -/
def Obligations.TransmitCompleteClears : Prop :=
  ∀ s : State,
    exec .hTxComplete s = .next { s with pendTxc := false, txBusy := false } ∧
    ((s.pendTxc = true → s.txBusy = true) →
      (∀ t, drainLink s = .next t → t.pendTxc = true → t.txBusy = true) ∧
      ∀ i t, exec i s = .next t → t.pendTxc = true → t.txBusy = true)

/-- O32 (stated: R253). H_CAPTURE_COMPLETE clears its bit, swaps, holds capture in the paused
variant, and requests the DoA task. -/
def Obligations.CaptureCompleteHandsOver : Prop :=
  ∀ s : State,
    (s.capWr = s.cfg.signalLen → ∃ other : Fin 2, other ≠ s.capActive ∧
      exec .hCaptureComplete s = .next { s with
        pendBatch := false
        gOverrun := if s.capOut then true else s.gOverrun
        capActive := other
        capWr := 0
        capRdyV := true
        capOut := true
        capPaused := if s.cfg.pauseForDoa then true else s.capPaused
        doaNewest := s.capActive
        pendDoa := true }) ∧
    (s.capWr ≠ s.cfg.signalLen →
      exec .hCaptureComplete s = .next { s with pendBatch := false })

/-- O33 (derived: 60_exceptions.md R283). H_RX and H_TX_COMPLETE reach the same state in either
order. -/
def Obligations.LevelTwoHandlersCommute : Prop :=
  ∀ s : State,
    (∃ a b t, exec .hRx s = .next a ∧ exec .hTxComplete a = .next t ∧
      exec .hTxComplete s = .next b ∧ exec .hRx b = .next t) ∧
    (s.inReset = false → s.sched = [] → s.pendBatch = false → s.pendTxc = true → s.linkRxq ≠ [] →
      step s = exec .hTxComplete { s with l2Draws := s.l2Draws + 1 } ∨
      step s = exec .hRx { s with l2Draws := s.l2Draws + 1 })

/-- O34 (stated: R254). T_DOA from Idle clears its request, takes the newest buffer as source and
enters CopyTx or Demux. -/
def Obligations.DoaStartStep : Prop :=
  ∀ s : State,
    (s.doaPhase = .idle → exec .tDoa s = .next { s with
      pendDoa := false, doaSrc := s.doaNewest, doaI := 0, doaC := 0, dmxSum := 0,
      doaPhase := if s.cfg.sendSamples then .copyTx else .demux }) ∧
    (s.doaPhase ≠ .idle → ∀ t, exec .tDoa s = .next t → t.pendDoa = s.pendDoa)

/-- O35 (stated: R255). A CopyTx step copies one frame to RAW; the last one queues Samples(RAW) and
enters Demux. -/
def Obligations.DoaCopyStep : Prop :=
  ∀ (s : State) (f : Frame), s.doaPhase = .copyTx →
    s.mem.readFrame s.doaSrc s.doaI = some f →
    (s.doaI + 1 ≠ s.cfg.signalLen → ∃ t, exec .tDoa s = .next t ∧
      t = { s with mem := t.mem, doaI := s.doaI + 1 } ∧
      (∀ i, Store.read t.mem.raw i = if i = s.doaI then some f else Store.read s.mem.raw i) ∧
      keepsBuf s t ∧ keepsCh s t ∧ keepsCorr s t) ∧
    (s.doaI + 1 = s.cfg.signalLen → ∀ batch : List Frame, batch.length = s.cfg.signalLen →
      batch[s.doaI]? = some f → (∀ i, i < s.doaI → Store.read s.mem.raw i = batch[i]?) →
      ∃ t, exec .tDoa s = .next t ∧
        t = { s with
          mem := t.mem
          txqS := if s.txqS.length < s.cfg.txqSamplesCap then s.txqS ++ [.samples batch] else s.txqS
          gTxDrop := if s.txqS.length < s.cfg.txqSamplesCap then s.gTxDrop else true
          doaI := 0
          doaPhase := .demux } ∧
        (∀ i, Store.read t.mem.raw i = if i = s.doaI then some f else Store.read s.mem.raw i) ∧
        keepsBuf s t ∧ keepsCh s t ∧ keepsCorr s t)

/-- O36 (stated: R256). A Demux step takes one sample into CH and the sum; the last of a channel
subtracts the mean; the last of channel 3 releases the batch and enters Compute. -/
def Obligations.DoaDemuxStep : Prop :=
  ∀ (s : State) (v : Sample), s.doaPhase = .demux →
    s.mem.readSample s.doaSrc s.doaI s.doaC = some v →
    (s.doaI + 1 ≠ s.cfg.signalLen → ∃ t, exec .tDoa s = .next t ∧
      t = { s with mem := t.mem, dmxSum := s.dmxSum + v.signExtend 64, doaI := s.doaI + 1 } ∧
      (∀ c i, Store.read (t.mem.ch.get c) i =
        if c = s.doaC ∧ i = s.doaI then some v else Store.read (s.mem.ch.get c) i) ∧
      keepsBuf s t ∧ keepsRaw s t ∧ keepsCorr s t) ∧
    (s.doaI + 1 = s.cfg.signalLen → ∀ xs : List Sample, xs.length = s.cfg.signalLen →
      xs[s.doaI]? = some v →
      (∀ i, i < s.doaI → Store.read (s.mem.ch.get s.doaC) i = xs[i]?) →
      ∃ t, exec .tDoa s = .next t ∧
        t = { s with
          mem := t.mem
          dmxSum := 0
          doaI := 0
          doaC := if s.doaC = 3 then 3 else s.doaC + 1
          capOut := if s.doaC = 3 then false else s.capOut
          doaPhase := if s.doaC = 3 then .compute else .demux } ∧
        (∀ (i : Nat) (x : Sample), xs[i]? = some x →
          ∃ w, Store.read (t.mem.ch.get s.doaC) i = some w ∧ w.toInt = exactSat16
            (x.toInt - exactTdiv (s.dmxSum + v.signExtend 64).toInt s.cfg.signalLen)) ∧
        (∀ i, s.cfg.signalLen ≤ i → Store.read (t.mem.ch.get s.doaC) i = none) ∧
        (∀ c i, c ≠ s.doaC → Store.read (t.mem.ch.get c) i = Store.read (s.mem.ch.get c) i) ∧
        keepsBuf s t ∧ keepsRaw s t ∧ keepsCorr s t)

/-- O37 (stated: R257). The Compute step runs CALC_LAG, the fold, the lookup and ADD_GOAL_OFFSET for
pan, then tilt, re-arms a held capture and ends the task. -/
def Obligations.DoaComputeStep : Prop :=
  ∀ s : State, s.doaPhase = .compute → configValid s.cfg = true →
    s.lagTab = genLagTable s.cfg → (∀ c, written (s.mem.ch.get c) s.cfg.signalLen) →
    ∃ t, exec .tDoa s = .next t ∧
      t = { s with
        mem := t.mem, doaLag := t.doaLag, doaBearing := t.doaBearing, srvGoal := t.srvGoal,
        capPaused := false, doaPhase := .idle } ∧
      (∀ a, ∃ u w z,
        exec (.calcLag (.channel (s.cfg.pair a).1) (.channel (s.cfg.pair a).2)) s = .next u ∧
        u.ret = .lag (t.doaLag.get a).toInt ∧
        exec (.calcAngle (.channel (s.cfg.pair a).1) (.channel (s.cfg.pair a).2)) s = .next w ∧
        w.ret = .degree (t.doaBearing.get a) ∧
        exec (.addGoalOffset a (t.doaBearing.get a)) s = .next z ∧
        t.srvGoal.get a = z.srvGoal.get a) ∧
      (∃ u, exec (.xcorrReal (.channel (s.cfg.pair .tilt).1) (.channel (s.cfg.pair .tilt).2)) s =
        .next u ∧ keepsCorr u t) ∧
      keepsBuf s t ∧ keepsRaw s t ∧ keepsCh s t

/-- O38 (derived: 46_tasks.md R256). The 4*SIGNAL_LEN Demux steps, with nothing in between, compute
FROM_BATCH of the batch read. -/
def Obligations.DoaDemuxPhaseIsFromBatch : Prop :=
  ∀ (s : State) (batch : List Frame), s.inReset = false → s.sched = [] →
    s.pendBatch = false → s.pendTxc = false → s.linkRxq = [] →
    s.doaPhase = .demux → s.doaI = 0 → s.doaC = 0 → s.dmxSum = 0 → 1 ≤ s.cfg.signalLen →
    Store.readAll (s.mem.buf s.doaSrc) s.cfg.signalLen = some batch →
    ∃ u, exec (.fromBatch (.values batch)) s = .next u ∧
      stepMany (4 * s.cfg.signalLen) s =
        .next { u with dmxSum := 0, doaC := 3, capOut := false, doaPhase := .compute }

/-- O39 (derived: 46_tasks.md R258). A T_DOA run with nothing in between takes one start step,
SIGNAL_LEN CopyTx steps if SEND_SAMPLES, 4*SIGNAL_LEN Demux steps and one Compute step, and ends
Idle. -/
def Obligations.DoaRunTakesItsSteps : Prop :=
  ∀ s : State, s.inReset = false → s.sched = [] → s.pendBatch = false → s.pendTxc = false →
    s.linkRxq = [] → s.doaPhase = .idle → s.pendDoa = true → configValid s.cfg = true →
    s.lagTab = genLagTable s.cfg → written (s.mem.buf s.doaNewest) s.cfg.signalLen →
    ∃ last, last = (if s.cfg.sendSamples then s.cfg.signalLen else 0) + 4 * s.cfg.signalLen + 1 ∧
      (∃ t, stepMany (last + 1) s = .next t ∧ t.doaPhase = .idle ∧ t.pendDoa = false ∧
        t.doaSrc = s.doaNewest) ∧
      ∀ k, 1 ≤ k → k ≤ last → ∃ t, stepMany k s = .next t ∧ t.doaPhase ≠ .idle ∧
        t.srvGoal = s.srvGoal

/-- O40 (stated: R261). T_COMMAND takes the first Command, applies pan, tilt, sampling in that order
and queues one status reply with the current angles. -/
def Obligations.CommandTaskApplies : Prop :=
  ∀ (s : State) (c : Command) (rest : List Command), s.cmdq = c :: rest →
    ∃ t, exec .tCommand s = .next t ∧ CommandApplied c { s with cmdq := rest } t

/-- O41 (derived: 30_encoding.md R111, 30_encoding.md R118, 46_tasks.md R251, 46_tasks.md R261). A
Command and each text command have the effect of the Command they stand for; Sync, PanTiltStatus
and Samples received are discarded. -/
def Obligations.MessagesAtTheDevice : Prop :=
  ∀ s : State,
    (∀ c, ∃ t, exec (.command c) s = .next t ∧ CommandApplied c s t ∧
      exec .tCommand { s with cmdq := c :: s.cmdq } = .next t) ∧
    (∀ deg, ∃ t, exec (.textPan deg) s = .next t ∧ CommandApplied ⟨some deg, none, none⟩ s t) ∧
    (∀ deg, ∃ t, exec (.textTilt deg) s = .next t ∧ CommandApplied ⟨none, some deg, none⟩ s t) ∧
    (∃ t, exec .textStart s = .next t ∧ CommandApplied ⟨none, none, some true⟩ s t) ∧
    (∃ t, exec .textStop s = .next t ∧ CommandApplied ⟨none, none, some false⟩ s t) ∧
    exec .sync s = .next s ∧ (∀ pan tilt, exec (.panTiltStatus pan tilt) s = .next s) ∧
    ∀ batch, batch.length = s.cfg.signalLen → exec (.samples batch) s = .next s

/-- O42 (stated: R263). T_SERVO_TICK clears its bit and steps pan, then tilt; ticks that arrive
meanwhile are merged. -/
def Obligations.ServoTickStepsBothAxes : Prop :=
  ∀ s : State, ∃ u t, exec (.step .pan) { s with pendStick := false } = .next u ∧
      exec (.step .tilt) u = .next t ∧ exec .tServoTick s = .next t ∧
      pendServoTick (pendServoTick s) = pendServoTick s

/-- O43 (stated: R262). T_TRANSMIT frames and sends the first reply, or with no reply the first
sample Message. -/
def Obligations.TransmitTaskSendsReplyFirst : Prop :=
  ∀ (s : State) (m : Message) (rest : List Message), s.txBusy = false →
    (s.txqR = m :: rest → ∃ t, exec .tTransmit s = .next t ∧
      t = { s with txqR := rest, txBusy := true, txBuf := stuffBytes (serialize m) ++ [0x00] } ∧
      pendTx t = false) ∧
    (s.txqR = [] → s.txqS = m :: rest → ∃ t, exec .tTransmit s = .next t ∧
      t = { s with txqS := rest, txBusy := true, txBuf := stuffBytes (serialize m) ++ [0x00] } ∧
      pendTx t = false)

/-- O44 (derived: 46_tasks.md R251, 46_tasks.md R261, 46_tasks.md R262). The model's choice (log
12): H_RX with no chunk, T_COMMAND with no Command and T_TRANSMIT with nothing to send or a
frame in flight change nothing. -/
def Obligations.NothingToTakeChangesNothing : Prop :=
  ∀ s : State,
    (s.linkRxq = [] → exec .hRx s = .next s) ∧
    (s.cmdq = [] → exec .tCommand s = .next s) ∧
    (s.txBusy = true ∨ (s.txqR = [] ∧ s.txqS = []) → exec .tTransmit s = .next s)

/-- O45 (derived: 43_angle.md R180, 60_exceptions.md R271, 10_state.md R49). Where instructions
stop: LAG_TO_ANGLE outside its window, operands outside their types (log 17), and reads of
elements never written (log 3). -/
def Obligations.StopsAreTheNamedOnes : Prop :=
  ∀ (s : State) (i : Instr), StepInv s →
    (∀ r, exec i s = .refused r →
      (r = .lagOutsideWindow ∧ ∃ lag, i = .lagToAngle lag ∧ inLagWindow s.cfg.k lag = false) ∨
      (r = .illFormed ∧ i.wellFormed s.cfg.signalLen = false)) ∧
    (∀ r, exec i s = .fault r →
      (r = .noValue .buf ∨ r = .noValue .raw ∨ r = .noValue .ch) ∧
      (i = .tDoa ∨ (∃ b, i = .fromBatch (.buffer b)) ∨
        ∃ x y, i = .xcorrReal x y ∨ i = .calcLag x y ∨ i = .calcAngle x y)) ∧
    (i.wellFormed s.cfg.signalLen = false → (exec i s = .refused .illFormed ∨
      ∃ c, exec i s = .fault (.noValue .ch) ∧ ¬ written (s.mem.ch.get c) s.cfg.signalLen)) ∧
    (∀ b, exec (.fromBatch (.buffer b)) s = .fault (.noValue .buf) ↔
      ¬ written (s.mem.buf b) s.cfg.signalLen) ∧
    (∀ x y, x.wellFormed s.cfg.signalLen = true → y.wellFormed s.cfg.signalLen = true →
      i = .xcorrReal x y ∨ i = .calcLag x y ∨ i = .calcAngle x y →
      (exec i s = .fault (.noValue .ch) ↔ readsUnwritten s x ∨ readsUnwritten s y))

/-- O46 (derived: 60_exceptions.md R274). Each move of the environment has the effect of the table
of moves; a tick while disarmed and a completion with no frame in flight are no steps. -/
def Obligations.EnvironmentMoves : Prop :=
  ∀ (s : State) (m : Move) (rest : List Move), s.inReset = false → s.sched = m :: rest →
    (∀ f, m = .tick f → s.capEn = true → s.capPaused = false →
      step s = exec (.tick f) { s with sched := rest }) ∧
    (∀ f, m = .tick f → s.capEn = false ∨ s.capPaused = true →
      step s = .refused .moveNotEnabled) ∧
    (∀ chunk, m = .deliver chunk →
      step s = .next { s with sched := rest, linkRxq := s.linkRxq ++ [chunk] }) ∧
    (m = .drain → s.txBusy = true → s.pendTxc = false →
      step s = .next { s with sched := rest, linkTx := s.linkTx ++ s.txBuf, pendTxc := true }) ∧
    (m = .drain → s.txBusy = false ∨ s.pendTxc = true → step s = .refused .moveNotEnabled) ∧
    (m = .servoTick → step s = .next { s with sched := rest, pendStick := true }) ∧
    (∀ c, m = .hostSend c → ∃ frame,
      exec (.encodeFrame (.command c)) s = .next { s with ret := .bytes frame } ∧
      step s = .next { s with sched := rest, linkRxq := s.linkRxq ++ [frame] }) ∧
    (m = .hostReceive → step s = .next { s with sched := rest }) ∧
    (m = .sendSync → step s = exec .sendSync { s with sched := rest })

/-- O47 (derived: 30_encoding.md R110, 30_encoding.md R111). A step whose turn is a direct
invocation runs the instruction its bytes decode to (the model's port, log 6). -/
def Obligations.StepRunsTheDecodedInstruction : Prop :=
  (∀ (s : State) (l : Layer) (bs : List Byte) (rest : List Move) (i : Instr), s.inReset = false →
      s.sched = .invoke l bs :: rest → decode s.cfg.signalLen l bs = .ok i →
      step s = exec i { s with sched := rest }) ∧
    ∀ (s : State) (nbits w : Nat) (i : Instr),
      decode s.cfg.signalLen (tableWordLayer nbits w) (tableWordBytes s.cfg.signalLen nbits w) =
        .ok i →
      step (s.withFetchWord nbits w) = exec i { s with inReset := false }

/-- O48 (derived: 60_exceptions.md R282, 60_exceptions.md R283, 60_exceptions.md R295). The
processor agent runs the body of the smallest runnable level; its turns (log 4), the level-2
order (log 5) and the waiting step (log 6) are the model's. -/
def Obligations.ProcessorServesSmallestLevel : Prop :=
  ∀ (s : State) (tx : Bool) (rest : List Move), s.inReset = false →
    s.sched = .processor tx :: rest →
    ((runnable s .l1 = true ↔ s.pendBatch = true) ∧
      (runnable s .l2 = true ↔ s.pendTxc = true ∨ s.linkRxq ≠ []) ∧
      (runnable s .l3 = true ↔ s.pendDoa = true ∨ s.doaPhase ≠ .idle) ∧
      (runnable s .l4 = true ↔ s.cmdq ≠ []) ∧ (runnable s .l5 = true ↔ s.pendStick = true) ∧
      (runnable s .l6 = true ↔ (s.txqR ≠ [] ∨ s.txqS ≠ []) ∧ s.txBusy = false)) ∧
    (∀ l, runnable s l = true → (∀ l', l'.number < l.number → runnable s l' = false) →
      (l = .l1 → step s = exec .hCaptureComplete { s with sched := rest }) ∧
      (l = .l2 → s.pendTxc = false → step s = exec .hRx { s with sched := rest }) ∧
      (l = .l2 → s.linkRxq = [] → step s = exec .hTxComplete { s with sched := rest }) ∧
      (l = .l2 → s.pendTxc = true → s.linkRxq ≠ [] →
        step s = exec (if tx then .hTxComplete else .hRx) { s with sched := rest }) ∧
      (l = .l3 → step s = exec .tDoa { s with sched := rest }) ∧
      (l = .l4 → step s = exec .tCommand { s with sched := rest }) ∧
      (l = .l5 → step s = exec .tServoTick { s with sched := rest }) ∧
      (l = .l6 → step s = exec .tTransmit { s with sched := rest })) ∧
    ((∀ l, runnable s l = false) → step s = .next { s with sched := rest }) ∧
    ∀ u, u.inReset = false → u.sched = [] →
      (u.pendBatch = true ∨ u.pendTxc = false ∨ u.linkRxq = []) →
      step u = step { u with sched := [.processor true] }

/-- O49 (derived: 10_state.md R49, 70_reset_and_hazards.md R310, 70_reset_and_hazards.md R311,
70_reset_and_hazards.md R312). What reset leaves, for every configuration, and reset exit as the
first step with a valid configuration. -/
def Obligations.ResetStateAndExit : Prop :=
  ∀ s : State,
    (∀ rest, s.inReset = false → s.sched = .reset :: rest → ∃ t, step s = .next t ∧
      t.inReset = true ∧ t.cfg = s.cfg ∧ t.sched = rest ∧ t = State.resetWith s.cfg rest s.l2Draws) ∧
    (s.inReset = true → configValid s.cfg = true → ∃ t, step s = .next t ∧ t.inReset = false ∧
      t = { State.resetWith s.cfg s.sched s.l2Draws with inReset := false }) ∧
    ∀ (c : Config) (moves : List Move) (draws : Nat) (r : State), r = State.resetWith c moves draws →
      (r.capEn = false ∧ r.capPaused = false ∧ r.capActive = 0 ∧ r.capWr = 0 ∧ r.capRdyV = false ∧
        r.capOut = false) ∧
      (∀ b i, r.mem.readFrame b i = none) ∧ (∀ i, Store.read r.mem.raw i = none) ∧
      (∀ ch i, Store.read (r.mem.ch.get ch) i = none) ∧ (∀ i, Store.read r.mem.corr i = none) ∧
      r.doaPhase = .idle ∧ r.lagTab = genLagTable c ∧
      (∀ a, r.srvGoal.get a = c.servoInit.get a ∧ r.srvCur.get a = c.servoInit.get a ∧
        r.srvPulse.get a = degToPulse c a (c.servoInit.get a).toInt) ∧
      rxFill r = 0 ∧ r.txBusy = false ∧
      (r.txqR = [] ∧ r.txqS = [] ∧ r.cmdq = [] ∧ r.linkRxq = [] ∧ r.linkTx = []) ∧
      (r.pendBatch = false ∧ r.pendTxc = false ∧ r.pendDoa = false ∧ r.pendStick = false) ∧
      (r.gGap = false ∧ r.gOverrun = false ∧ r.gTxDrop = false ∧ r.gCmdDrop = false) ∧
      r.diag = [] ∧ quiescent r = true

/-- O50 (stated: R313). The configuration check is the conjunction of the listed constraints, and a
block that fails it never leaves reset. -/
def Obligations.ConfigCheckConditions : Prop :=
  ∀ c : Config,
    (configValid c = true ↔
      1 ≤ c.signalLen ∧ c.signalLen ≤ 2 ^ 31 ∧ 1 ≤ c.xcorrLen ∧ c.xcorrLen ≤ 2 * c.signalLen - 1 ∧
      1 ≤ c.tSUs ∧ 1 ≤ c.dMicsMm ∧ 1 ≤ c.vSound ∧
      c.k = 2 * (c.dMicsMm * 1000 / (c.tSUs * c.vSound)) + 1 ∧ 3 ≤ c.k ∧
      (∀ a, 1 ≤ (c.servoMax.get a).toInt ∧ 0 ≤ (c.servoInit.get a).toInt ∧
        (c.servoInit.get a).toInt ≤ (c.servoMax.get a).toInt ∧
        (c.doaSign.get a = 1 ∨ c.doaSign.get a = -1)) ∧
      15 ≤ c.nRx ∧ 1 ≤ c.txqReplyCap ∧ 1 ≤ c.txqSamplesCap ∧ 1 ≤ c.cmdqCap ∧
      c.pairPan.1 ≠ c.pairPan.2 ∧ c.pairTilt.1 ≠ c.pairTilt.2) ∧
    ∀ s : State, s.cfg = c → s.inReset = true → configValid c = false →
      step s = .refused .configFault

/-- O51 (derived: 10_state.md R49, 40_capture.md R130, 44_servo.md R195). The invariant of every
step and the invariant of the spec's runs hold at reset, for every valid configuration. -/
def Obligations.InvariantsHoldAtReset : Prop :=
  (∀ (c : Config) (moves : List Move) (draws : Nat), configValid c = true →
      (∀ l bs, Move.invoke l bs ∉ moves) → RunInv (State.resetWith c moves draws)) ∧
    StepInv State.reset ∧ RunInv State.reset

/-- O52 (derived: 10_state.md R26, 20_memory.md R66, 40_capture.md R130, 44_servo.md R195,
44_servo.md R201). Every step, whatever the environment does and whatever is invoked directly,
keeps the invariant. -/
def Obligations.EveryStepKeepsStepInv : Prop :=
  ∀ s t : State, StepInv s → step s = .next t → StepInv t

/-- O53 (derived: 20_memory.md R70, 20_memory.md R71, 40_capture.md R130, 46_tasks.md R258). Every
step of a run of the spec's own moves keeps the stronger invariant of those runs. -/
def Obligations.EveryStepKeepsRunInv : Prop :=
  ∀ s t : State, RunInv s → step s = .next t → RunInv t

/-- O54 (derived: 20_memory.md R70, 60_exceptions.md R270, 10_state.md R49). In a run of the spec's
own moves no step faults, and only a tick or a link completion outside its enabling condition is
refused. -/
def Obligations.RunsNeverFault : Prop :=
  ∀ s : State, RunInv s → (∃ t, step s = .next t) ∨
    (s.inReset = false ∧ (∃ rest, s.sched = .drain :: rest) ∧
      (s.txBusy = false ∨ s.pendTxc = true) ∧ step s = .refused .moveNotEnabled) ∨
    (s.inReset = false ∧ (∃ f rest, s.sched = .tick f :: rest) ∧
      (s.capEn = false ∨ s.capPaused = true) ∧ step s = .refused .moveNotEnabled)

/-- O55 (derived: 10_state.md R21, 10_state.md R22, 10_state.md R23, 10_state.md R25, 10_state.md
R26, 10_state.md R36, 10_state.md R37, 10_state.md R38, 10_state.md R42, 10_state.md R44,
10_state.md R48, 60_exceptions.md R290). Registers, stores, queues, pending bits and ghost flags
change only by the writers their rules list; PEND.TXC and PEND.STICK are set only by their
moves. -/
def Obligations.WritersOfTheSharedState : Prop :=
  (∀ (i : Instr) (s t : State), exec i s = .next t →
    (t.srvCur ≠ s.srvCur ∨ t.srvPulse ≠ s.srvPulse → (∃ a, i = .step a) ∨ i = .tServoTick) ∧
    (∀ a, ((t.srvCur.get a).toInt - (s.srvCur.get a).toInt).natAbs ≤ 1) ∧
    (t.srvGoal ≠ s.srvGoal → (∃ a d, i = .setGoal a d) ∨ (∃ a b, i = .addGoalOffset a b) ∨
      i = .tDoa ∨ i = .tCommand ∨ (∃ c, i = .command c) ∨ (∃ d, i = .textPan d ∨ i = .textTilt d)) ∧
    (t.capEn ≠ s.capEn → i = .startSampling ∨ i = .stopSampling ∨ i = .tCommand ∨
      (∃ c, i = .command c) ∨ i = .textStart ∨ i = .textStop) ∧
    (t.capActive ≠ s.capActive ∨ t.capRdyV ≠ s.capRdyV →
      i = .getNewestBatch ∨ i = .hCaptureComplete) ∧
    (t.capOut ≠ s.capOut → i = .getNewestBatch ∨ i = .hCaptureComplete ∨ i = .releaseBatch ∨
      i = .tDoa) ∧
    (t.capWr ≠ s.capWr → (∃ f, i = .tick f) ∨ i = .startSampling ∨ i = .tCommand ∨
      (∃ c, i = .command c) ∨ i = .textStart ∨ i = .getNewestBatch ∨ i = .hCaptureComplete) ∧
    (t.capPaused ≠ s.capPaused → i = .startSampling ∨ i = .tCommand ∨ (∃ c, i = .command c) ∨
      i = .textStart ∨ i = .hCaptureComplete ∨ i = .tDoa) ∧
    (t.doaNewest ≠ s.doaNewest → i = .hCaptureComplete) ∧
    (t.doaSrc ≠ s.doaSrc ∨ t.doaPhase ≠ s.doaPhase ∨ t.doaC ≠ s.doaC ∨ t.doaI ≠ s.doaI ∨
      t.doaLag ≠ s.doaLag ∨ t.doaBearing ≠ s.doaBearing ∨ t.mem.raw ≠ s.mem.raw → i = .tDoa) ∧
    (t.lagTab ≠ s.lagTab → i = .genLagTable) ∧
    (t.rxAcc ≠ s.rxAcc → (∃ input, i = .feed input) ∨ i = .hRx) ∧
    (t.txBuf ≠ s.txBuf → (∃ frame, i = .send frame) ∨ i = .tTransmit) ∧
    (t.txBusy ≠ s.txBusy → (∃ frame, i = .send frame) ∨ i = .tTransmit ∨ i = .hTxComplete) ∧
    (t.cmdq ≠ s.cmdq → i = .hRx ∨ i = .tCommand) ∧ (t.linkRxq ≠ s.linkRxq → i = .hRx) ∧
    (t.txqS ≠ s.txqS → (∃ m, i = .enqueueTx m) ∨ i = .tDoa ∨ i = .tTransmit) ∧
    (∀ b j, t.mem.readFrame b j ≠ s.mem.readFrame b j →
      b = s.capActive ∧ j = s.capWr ∧ ∃ f, i = .tick f) ∧
    (t.mem.ch ≠ s.mem.ch ∨ t.dmxSum ≠ s.dmxSum → (∃ b, i = .fromBatch b) ∨ i = .tDoa) ∧
    (t.mem.corr ≠ s.mem.corr →
      (∃ x y, i = .xcorrReal x y ∨ i = .calcLag x y ∨ i = .calcAngle x y) ∨ i = .tDoa) ∧
    (t.txqR ≠ s.txqR → (∃ m, i = .enqueueTx m) ∨ i = .sendSync ∨ i = .tTransmit ∨ i = .tCommand ∨
      (∃ c, i = .command c) ∨ (∃ d, i = .textPan d ∨ i = .textTilt d) ∨ i = .textStart ∨
      i = .textStop) ∧
    (s.pendBatch = false → t.pendBatch = true →
      (∃ f, i = .tick f) ∧ t.capWr = s.cfg.signalLen) ∧
    (s.pendBatch = true → t.pendBatch = false → i = .hCaptureComplete ∨ i = .startSampling ∨
      i = .tCommand ∨ (∃ c, i = .command c) ∨ i = .textStart) ∧
    (t.pendTxc ≠ s.pendTxc → i = .hTxComplete ∧ t.pendTxc = false) ∧
    (s.pendDoa = false → t.pendDoa = true → i = .hCaptureComplete) ∧
    (s.pendDoa = true → t.pendDoa = false → i = .tDoa) ∧
    (t.pendStick ≠ s.pendStick → i = .tServoTick ∧ t.pendStick = false) ∧
    (t.gGap ≠ s.gGap → ∃ f, i = .tick f) ∧
    (t.gOverrun ≠ s.gOverrun → i = .getNewestBatch ∨ i = .hCaptureComplete) ∧
    (t.gTxDrop ≠ s.gTxDrop → (∃ m, i = .enqueueTx m) ∨ i = .sendSync ∨ i = .tDoa ∨ i = .tCommand ∨
      (∃ c, i = .command c) ∨ (∃ d, i = .textPan d ∨ i = .textTilt d) ∨ i = .textStart ∨
      i = .textStop) ∧
    (t.gCmdDrop ≠ s.gCmdDrop ∨ t.diag ≠ s.diag → i = .hRx) ∧
    t.linkTx = s.linkTx ∧ t.cfg = s.cfg) ∧
    ∀ s t : State, s.inReset = false → step s = .next t →
      (s.pendTxc = false → t.pendTxc = true → ∃ rest, s.sched = .drain :: rest) ∧
      (s.pendStick = false → t.pendStick = true → ∃ rest, s.sched = .servoTick :: rest) ∧
      (t.linkTx ≠ s.linkTx → ∃ rest, s.sched = .drain :: rest ∨ s.sched = .reset :: rest)

/-- O56 (derived: 10_state.md R41, 10_state.md R47, 10_state.md R48, 10_state.md R26). No
instruction changes the configuration or LINK.TX; DIAG only grows; a ghost flag once set stays
set. -/
def Obligations.OutputsOnlyGrowAndGhostsStick : Prop :=
  (∀ (i : Instr) (s t : State), exec i s = .next t →
      t.cfg = s.cfg ∧ t.linkTx = s.linkTx ∧ t.inReset = s.inReset ∧ t.sched = s.sched ∧
      (∃ codes, t.diag = s.diag ++ codes) ∧ (s.gGap = true → t.gGap = true) ∧
      (s.gOverrun = true → t.gOverrun = true) ∧ (s.gTxDrop = true → t.gTxDrop = true) ∧
      (s.gCmdDrop = true → t.gCmdDrop = true)) ∧
    ∀ s t : State, step s = .next t → s.inReset = false → (∀ rest, s.sched ≠ .reset :: rest) →
      t.cfg = s.cfg ∧ (∃ bytes, t.linkTx = s.linkTx ++ bytes) ∧
      (∃ codes, t.diag = s.diag ++ codes) ∧ (s.gGap = true → t.gGap = true) ∧
      (s.gOverrun = true → t.gOverrun = true) ∧ (s.gTxDrop = true → t.gTxDrop = true) ∧
      (s.gCmdDrop = true → t.gCmdDrop = true)

/-- O57 (derived: 10_state.md R47, 10_state.md R48). No instruction reads a ghost flag or DIAG:
changing them changes nothing else in its outcome. -/
def Obligations.GhostsAndDiagAreNeverRead : Prop :=
  ∀ (i : Instr) (s t : State) (g1 g2 g3 g4 : Bool) (d : List Nat), exec i s = .next t →
    ∃ (h1 h2 h3 h4 : Bool) (e : List Nat),
      exec i { s with gGap := g1, gOverrun := g2, gTxDrop := g3, gCmdDrop := g4, diag := d } =
        .next { t with gGap := h1, gOverrun := h2, gTxDrop := h3, gCmdDrop := h4, diag := e }

/-- O58 (derived: 30_encoding.md R92, 30_encoding.md R110, 30_encoding.md R118). Decoding the
encoding of a well-formed instruction, in its layer, gives the instruction back. -/
def Obligations.DecodeOfEncode : Prop :=
  ∀ (n : Nat) (i : Instr), i.wellFormed n = true → decode n i.layer (encode i) = .ok i

/-- O59 (derived: 30_encoding.md R99, 30_encoding.md R105, 30_encoding.md R110, 30_encoding.md
R118). Bytes that decode are the encoding of the one well-formed instruction they decode to
(operation operand bytes: the model's, log 7; text layer: log 23). -/
def Obligations.DecodeIsExact : Prop :=
  ∀ (n : Nat) (l : Layer) (bs : List Byte) (i : Instr), decode n l bs = .ok i →
    i.wellFormed n = true ∧ i.layer = l ∧ encode i = bs

/-- O60 (derived: 30_encoding.md R110, 30_encoding.md R118, 45_framing.md R216). Words written out
by hand from the spec's encodings decode to the instructions they stand for. -/
def Obligations.HandWrittenWordsDecode : Prop :=
  decode 2 .payload [0x00] = .ok .sync ∧
    decode 2 .payload [0x01, 0x00, 0x00, 0x00, 0x00, 0xFF, 0xFF, 0xFF, 0xFF] =
      .ok (.panTiltStatus 0 (-1)) ∧
    decode 2 .payload [0x02, 0x01, 0x00, 0x00, 0x00, 0xFF, 0xFF, 0x00, 0x01, 0x00, 0x00, 0x00, 0x00,
      0x00, 0x00, 0x00, 0x00] = .ok (.samples [⟨1, 0, -1, 256⟩, ⟨0, 0, 0, 0⟩]) ∧
    decode 2 .payload [0x03, 0x01, 0x1E, 0x00, 0x00, 0x00, 0x00, 0x00] =
      .ok (.command ⟨some 30, none, none⟩) ∧
    decode 2 .text [0x03, 0x00, 0x01, 0x78, 0x00, 0x00, 0x00, 0x00] = .ok (.textTilt 120) ∧
    decode 2 .text [0x03, 0x00, 0x00, 0x01, 0x00] = .ok .textStop ∧
    decode 2 .operation [0x03] = .ok .getNewestBatch ∧
    decode 2 .operation [0x42, 0x01] = .ok (.step .tilt) ∧
    decode 2 .operation [0x63] = .ok .tDoa ∧
    decode 2 .payload [0x04] = .error .reservedTag ∧
    decode 2 .operation [0x05] = .error .unassignedNumber
end

