-- ==== Sys2Proof/Laws/State.lean ====
section
/-! SUPPORT. One lemma per field per update of the state, each true by definition, so that no proof
unfolds a record update. The updates with a case distinction are in Laws/Updates.lean. -/

namespace Sys2Proof

@[simp] theorem PerAxis.get_pan {α : Type} (p : PerAxis α) : p.get .pan = p.pan := rfl
@[simp] theorem PerAxis.get_tilt {α : Type} (p : PerAxis α) : p.get .tilt = p.tilt := rfl
@[simp] theorem PerAxis.get_set_same {α : Type} (p : PerAxis α) (a : Axis) (v : α) :
    (p.set a v).get a = v := by cases a <;> rfl
theorem PerAxis.get_set_other {α : Type} (p : PerAxis α) (a b : Axis) (v : α) (h : b ≠ a) :
    (p.set a v).get b = p.get b := by
  cases a <;> cases b <;> first | rfl | exact absurd rfl h
theorem PerAxis.get_set {α : Type} (p : PerAxis α) (a b : Axis) (v : α) :
    (p.set a v).get b = if b = a then v else p.get b := by cases a <;> cases b <;> rfl

namespace Machine

variable (s : State)

/-! ### `returning` -/

@[simp] theorem returning_cfg (v : Returned) : (returning v s).cfg = s.cfg := rfl
@[simp] theorem returning_inReset (v : Returned) : (returning v s).inReset = s.inReset := rfl
@[simp] theorem returning_capEn (v : Returned) : (returning v s).capEn = s.capEn := rfl
@[simp] theorem returning_capPaused (v : Returned) : (returning v s).capPaused = s.capPaused := rfl
@[simp] theorem returning_capActive (v : Returned) : (returning v s).capActive = s.capActive := rfl
@[simp] theorem returning_capWr (v : Returned) : (returning v s).capWr = s.capWr := rfl
@[simp] theorem returning_capRdyV (v : Returned) : (returning v s).capRdyV = s.capRdyV := rfl
@[simp] theorem returning_capOut (v : Returned) : (returning v s).capOut = s.capOut := rfl
@[simp] theorem returning_mem (v : Returned) : (returning v s).mem = s.mem := rfl
@[simp] theorem returning_dmxSum (v : Returned) : (returning v s).dmxSum = s.dmxSum := rfl
@[simp] theorem returning_doaPhase (v : Returned) : (returning v s).doaPhase = s.doaPhase := rfl
@[simp] theorem returning_doaSrc (v : Returned) : (returning v s).doaSrc = s.doaSrc := rfl
@[simp] theorem returning_doaNewest (v : Returned) : (returning v s).doaNewest = s.doaNewest := rfl
@[simp] theorem returning_doaC (v : Returned) : (returning v s).doaC = s.doaC := rfl
@[simp] theorem returning_doaI (v : Returned) : (returning v s).doaI = s.doaI := rfl
@[simp] theorem returning_doaLag (v : Returned) : (returning v s).doaLag = s.doaLag := rfl
@[simp] theorem returning_doaBearing (v : Returned) :
    (returning v s).doaBearing =
      s.doaBearing := rfl
@[simp] theorem returning_lagTab (v : Returned) : (returning v s).lagTab = s.lagTab := rfl
@[simp] theorem returning_srvGoal (v : Returned) : (returning v s).srvGoal = s.srvGoal := rfl
@[simp] theorem returning_srvCur (v : Returned) : (returning v s).srvCur = s.srvCur := rfl
@[simp] theorem returning_srvPulse (v : Returned) : (returning v s).srvPulse = s.srvPulse := rfl
@[simp] theorem returning_rxAcc (v : Returned) : (returning v s).rxAcc = s.rxAcc := rfl
@[simp] theorem returning_txBusy (v : Returned) : (returning v s).txBusy = s.txBusy := rfl
@[simp] theorem returning_txBuf (v : Returned) : (returning v s).txBuf = s.txBuf := rfl
@[simp] theorem returning_linkTx (v : Returned) : (returning v s).linkTx = s.linkTx := rfl
@[simp] theorem returning_txqR (v : Returned) : (returning v s).txqR = s.txqR := rfl
@[simp] theorem returning_txqS (v : Returned) : (returning v s).txqS = s.txqS := rfl
@[simp] theorem returning_cmdq (v : Returned) : (returning v s).cmdq = s.cmdq := rfl
@[simp] theorem returning_pendBatch (v : Returned) : (returning v s).pendBatch = s.pendBatch := rfl
@[simp] theorem returning_pendTxc (v : Returned) : (returning v s).pendTxc = s.pendTxc := rfl
@[simp] theorem returning_pendDoa (v : Returned) : (returning v s).pendDoa = s.pendDoa := rfl
@[simp] theorem returning_pendStick (v : Returned) : (returning v s).pendStick = s.pendStick := rfl
@[simp] theorem returning_linkRxq (v : Returned) : (returning v s).linkRxq = s.linkRxq := rfl
@[simp] theorem returning_diag (v : Returned) : (returning v s).diag = s.diag := rfl
@[simp] theorem returning_gGap (v : Returned) : (returning v s).gGap = s.gGap := rfl
@[simp] theorem returning_gOverrun (v : Returned) : (returning v s).gOverrun = s.gOverrun := rfl
@[simp] theorem returning_gTxDrop (v : Returned) : (returning v s).gTxDrop = s.gTxDrop := rfl
@[simp] theorem returning_gCmdDrop (v : Returned) : (returning v s).gCmdDrop = s.gCmdDrop := rfl
@[simp] theorem returning_sched (v : Returned) : (returning v s).sched = s.sched := rfl
@[simp] theorem returning_l2Draws (v : Returned) : (returning v s).l2Draws = s.l2Draws := rfl
@[simp] theorem returning_ret (v : Returned) : (returning v s).ret = v := rfl

/-! ### `diagnose` -/

@[simp] theorem diagnose_cfg (c : Condition) : (diagnose c s).cfg = s.cfg := rfl
@[simp] theorem diagnose_inReset (c : Condition) : (diagnose c s).inReset = s.inReset := rfl
@[simp] theorem diagnose_capEn (c : Condition) : (diagnose c s).capEn = s.capEn := rfl
@[simp] theorem diagnose_capPaused (c : Condition) : (diagnose c s).capPaused = s.capPaused := rfl
@[simp] theorem diagnose_capActive (c : Condition) : (diagnose c s).capActive = s.capActive := rfl
@[simp] theorem diagnose_capWr (c : Condition) : (diagnose c s).capWr = s.capWr := rfl
@[simp] theorem diagnose_capRdyV (c : Condition) : (diagnose c s).capRdyV = s.capRdyV := rfl
@[simp] theorem diagnose_capOut (c : Condition) : (diagnose c s).capOut = s.capOut := rfl
@[simp] theorem diagnose_mem (c : Condition) : (diagnose c s).mem = s.mem := rfl
@[simp] theorem diagnose_dmxSum (c : Condition) : (diagnose c s).dmxSum = s.dmxSum := rfl
@[simp] theorem diagnose_doaPhase (c : Condition) : (diagnose c s).doaPhase = s.doaPhase := rfl
@[simp] theorem diagnose_doaSrc (c : Condition) : (diagnose c s).doaSrc = s.doaSrc := rfl
@[simp] theorem diagnose_doaNewest (c : Condition) : (diagnose c s).doaNewest = s.doaNewest := rfl
@[simp] theorem diagnose_doaC (c : Condition) : (diagnose c s).doaC = s.doaC := rfl
@[simp] theorem diagnose_doaI (c : Condition) : (diagnose c s).doaI = s.doaI := rfl
@[simp] theorem diagnose_doaLag (c : Condition) : (diagnose c s).doaLag = s.doaLag := rfl
@[simp] theorem diagnose_doaBearing (c : Condition) :
    (diagnose c s).doaBearing =
      s.doaBearing := rfl
@[simp] theorem diagnose_lagTab (c : Condition) : (diagnose c s).lagTab = s.lagTab := rfl
@[simp] theorem diagnose_srvGoal (c : Condition) : (diagnose c s).srvGoal = s.srvGoal := rfl
@[simp] theorem diagnose_srvCur (c : Condition) : (diagnose c s).srvCur = s.srvCur := rfl
@[simp] theorem diagnose_srvPulse (c : Condition) : (diagnose c s).srvPulse = s.srvPulse := rfl
@[simp] theorem diagnose_rxAcc (c : Condition) : (diagnose c s).rxAcc = s.rxAcc := rfl
@[simp] theorem diagnose_txBusy (c : Condition) : (diagnose c s).txBusy = s.txBusy := rfl
@[simp] theorem diagnose_txBuf (c : Condition) : (diagnose c s).txBuf = s.txBuf := rfl
@[simp] theorem diagnose_linkTx (c : Condition) : (diagnose c s).linkTx = s.linkTx := rfl
@[simp] theorem diagnose_txqR (c : Condition) : (diagnose c s).txqR = s.txqR := rfl
@[simp] theorem diagnose_txqS (c : Condition) : (diagnose c s).txqS = s.txqS := rfl
@[simp] theorem diagnose_cmdq (c : Condition) : (diagnose c s).cmdq = s.cmdq := rfl
@[simp] theorem diagnose_pendBatch (c : Condition) : (diagnose c s).pendBatch = s.pendBatch := rfl
@[simp] theorem diagnose_pendTxc (c : Condition) : (diagnose c s).pendTxc = s.pendTxc := rfl
@[simp] theorem diagnose_pendDoa (c : Condition) : (diagnose c s).pendDoa = s.pendDoa := rfl
@[simp] theorem diagnose_pendStick (c : Condition) : (diagnose c s).pendStick = s.pendStick := rfl
@[simp] theorem diagnose_linkRxq (c : Condition) : (diagnose c s).linkRxq = s.linkRxq := rfl
@[simp] theorem diagnose_diag (c : Condition) : (diagnose c s).diag = s.diag ++ [c.code] := rfl
@[simp] theorem diagnose_gGap (c : Condition) : (diagnose c s).gGap = s.gGap := rfl
@[simp] theorem diagnose_gOverrun (c : Condition) : (diagnose c s).gOverrun = s.gOverrun := rfl
@[simp] theorem diagnose_gTxDrop (c : Condition) : (diagnose c s).gTxDrop = s.gTxDrop := rfl
@[simp] theorem diagnose_gCmdDrop (c : Condition) : (diagnose c s).gCmdDrop = s.gCmdDrop := rfl
@[simp] theorem diagnose_sched (c : Condition) : (diagnose c s).sched = s.sched := rfl
@[simp] theorem diagnose_l2Draws (c : Condition) : (diagnose c s).l2Draws = s.l2Draws := rfl
@[simp] theorem diagnose_ret (c : Condition) : (diagnose c s).ret = s.ret := rfl

/-! ### `stopCapture` -/

@[simp] theorem stopCapture_cfg : (stopCapture s).cfg = s.cfg := rfl
@[simp] theorem stopCapture_inReset : (stopCapture s).inReset = s.inReset := rfl
@[simp] theorem stopCapture_capEn : (stopCapture s).capEn = false := rfl
@[simp] theorem stopCapture_capPaused : (stopCapture s).capPaused = s.capPaused := rfl
@[simp] theorem stopCapture_capActive : (stopCapture s).capActive = s.capActive := rfl
@[simp] theorem stopCapture_capWr : (stopCapture s).capWr = s.capWr := rfl
@[simp] theorem stopCapture_capRdyV : (stopCapture s).capRdyV = s.capRdyV := rfl
@[simp] theorem stopCapture_capOut : (stopCapture s).capOut = s.capOut := rfl
@[simp] theorem stopCapture_mem : (stopCapture s).mem = s.mem := rfl
@[simp] theorem stopCapture_dmxSum : (stopCapture s).dmxSum = s.dmxSum := rfl
@[simp] theorem stopCapture_doaPhase : (stopCapture s).doaPhase = s.doaPhase := rfl
@[simp] theorem stopCapture_doaSrc : (stopCapture s).doaSrc = s.doaSrc := rfl
@[simp] theorem stopCapture_doaNewest : (stopCapture s).doaNewest = s.doaNewest := rfl
@[simp] theorem stopCapture_doaC : (stopCapture s).doaC = s.doaC := rfl
@[simp] theorem stopCapture_doaI : (stopCapture s).doaI = s.doaI := rfl
@[simp] theorem stopCapture_doaLag : (stopCapture s).doaLag = s.doaLag := rfl
@[simp] theorem stopCapture_doaBearing : (stopCapture s).doaBearing = s.doaBearing := rfl
@[simp] theorem stopCapture_lagTab : (stopCapture s).lagTab = s.lagTab := rfl
@[simp] theorem stopCapture_srvGoal : (stopCapture s).srvGoal = s.srvGoal := rfl
@[simp] theorem stopCapture_srvCur : (stopCapture s).srvCur = s.srvCur := rfl
@[simp] theorem stopCapture_srvPulse : (stopCapture s).srvPulse = s.srvPulse := rfl
@[simp] theorem stopCapture_rxAcc : (stopCapture s).rxAcc = s.rxAcc := rfl
@[simp] theorem stopCapture_txBusy : (stopCapture s).txBusy = s.txBusy := rfl
@[simp] theorem stopCapture_txBuf : (stopCapture s).txBuf = s.txBuf := rfl
@[simp] theorem stopCapture_linkTx : (stopCapture s).linkTx = s.linkTx := rfl
@[simp] theorem stopCapture_txqR : (stopCapture s).txqR = s.txqR := rfl
@[simp] theorem stopCapture_txqS : (stopCapture s).txqS = s.txqS := rfl
@[simp] theorem stopCapture_cmdq : (stopCapture s).cmdq = s.cmdq := rfl
@[simp] theorem stopCapture_pendBatch : (stopCapture s).pendBatch = s.pendBatch := rfl
@[simp] theorem stopCapture_pendTxc : (stopCapture s).pendTxc = s.pendTxc := rfl
@[simp] theorem stopCapture_pendDoa : (stopCapture s).pendDoa = s.pendDoa := rfl
@[simp] theorem stopCapture_pendStick : (stopCapture s).pendStick = s.pendStick := rfl
@[simp] theorem stopCapture_linkRxq : (stopCapture s).linkRxq = s.linkRxq := rfl
@[simp] theorem stopCapture_diag : (stopCapture s).diag = s.diag := rfl
@[simp] theorem stopCapture_gGap : (stopCapture s).gGap = s.gGap := rfl
@[simp] theorem stopCapture_gOverrun : (stopCapture s).gOverrun = s.gOverrun := rfl
@[simp] theorem stopCapture_gTxDrop : (stopCapture s).gTxDrop = s.gTxDrop := rfl
@[simp] theorem stopCapture_gCmdDrop : (stopCapture s).gCmdDrop = s.gCmdDrop := rfl
@[simp] theorem stopCapture_sched : (stopCapture s).sched = s.sched := rfl
@[simp] theorem stopCapture_l2Draws : (stopCapture s).l2Draws = s.l2Draws := rfl
@[simp] theorem stopCapture_ret : (stopCapture s).ret = s.ret := rfl

/-! ### `releaseReference` -/

@[simp] theorem releaseReference_cfg : (releaseReference s).cfg = s.cfg := rfl
@[simp] theorem releaseReference_inReset : (releaseReference s).inReset = s.inReset := rfl
@[simp] theorem releaseReference_capEn : (releaseReference s).capEn = s.capEn := rfl
@[simp] theorem releaseReference_capPaused : (releaseReference s).capPaused = s.capPaused := rfl
@[simp] theorem releaseReference_capActive : (releaseReference s).capActive = s.capActive := rfl
@[simp] theorem releaseReference_capWr : (releaseReference s).capWr = s.capWr := rfl
@[simp] theorem releaseReference_capRdyV : (releaseReference s).capRdyV = s.capRdyV := rfl
@[simp] theorem releaseReference_capOut : (releaseReference s).capOut = false := rfl
@[simp] theorem releaseReference_mem : (releaseReference s).mem = s.mem := rfl
@[simp] theorem releaseReference_dmxSum : (releaseReference s).dmxSum = s.dmxSum := rfl
@[simp] theorem releaseReference_doaPhase : (releaseReference s).doaPhase = s.doaPhase := rfl
@[simp] theorem releaseReference_doaSrc : (releaseReference s).doaSrc = s.doaSrc := rfl
@[simp] theorem releaseReference_doaNewest : (releaseReference s).doaNewest = s.doaNewest := rfl
@[simp] theorem releaseReference_doaC : (releaseReference s).doaC = s.doaC := rfl
@[simp] theorem releaseReference_doaI : (releaseReference s).doaI = s.doaI := rfl
@[simp] theorem releaseReference_doaLag : (releaseReference s).doaLag = s.doaLag := rfl
@[simp] theorem releaseReference_doaBearing : (releaseReference s).doaBearing = s.doaBearing := rfl
@[simp] theorem releaseReference_lagTab : (releaseReference s).lagTab = s.lagTab := rfl
@[simp] theorem releaseReference_srvGoal : (releaseReference s).srvGoal = s.srvGoal := rfl
@[simp] theorem releaseReference_srvCur : (releaseReference s).srvCur = s.srvCur := rfl
@[simp] theorem releaseReference_srvPulse : (releaseReference s).srvPulse = s.srvPulse := rfl
@[simp] theorem releaseReference_rxAcc : (releaseReference s).rxAcc = s.rxAcc := rfl
@[simp] theorem releaseReference_txBusy : (releaseReference s).txBusy = s.txBusy := rfl
@[simp] theorem releaseReference_txBuf : (releaseReference s).txBuf = s.txBuf := rfl
@[simp] theorem releaseReference_linkTx : (releaseReference s).linkTx = s.linkTx := rfl
@[simp] theorem releaseReference_txqR : (releaseReference s).txqR = s.txqR := rfl
@[simp] theorem releaseReference_txqS : (releaseReference s).txqS = s.txqS := rfl
@[simp] theorem releaseReference_cmdq : (releaseReference s).cmdq = s.cmdq := rfl
@[simp] theorem releaseReference_pendBatch : (releaseReference s).pendBatch = s.pendBatch := rfl
@[simp] theorem releaseReference_pendTxc : (releaseReference s).pendTxc = s.pendTxc := rfl
@[simp] theorem releaseReference_pendDoa : (releaseReference s).pendDoa = s.pendDoa := rfl
@[simp] theorem releaseReference_pendStick : (releaseReference s).pendStick = s.pendStick := rfl
@[simp] theorem releaseReference_linkRxq : (releaseReference s).linkRxq = s.linkRxq := rfl
@[simp] theorem releaseReference_diag : (releaseReference s).diag = s.diag := rfl
@[simp] theorem releaseReference_gGap : (releaseReference s).gGap = s.gGap := rfl
@[simp] theorem releaseReference_gOverrun : (releaseReference s).gOverrun = s.gOverrun := rfl
@[simp] theorem releaseReference_gTxDrop : (releaseReference s).gTxDrop = s.gTxDrop := rfl
@[simp] theorem releaseReference_gCmdDrop : (releaseReference s).gCmdDrop = s.gCmdDrop := rfl
@[simp] theorem releaseReference_sched : (releaseReference s).sched = s.sched := rfl
@[simp] theorem releaseReference_l2Draws : (releaseReference s).l2Draws = s.l2Draws := rfl
@[simp] theorem releaseReference_ret : (releaseReference s).ret = s.ret := rfl

/-! ### `startTransmit` -/

@[simp] theorem startTransmit_cfg (frame : List Byte) : (startTransmit frame s).cfg = s.cfg := rfl
@[simp] theorem startTransmit_inReset (frame : List Byte) :
    (startTransmit frame s).inReset =
      s.inReset := rfl
@[simp] theorem startTransmit_capEn (frame : List Byte) :
    (startTransmit frame s).capEn =
      s.capEn := rfl
@[simp] theorem startTransmit_capPaused (frame : List Byte) :
    (startTransmit frame s).capPaused =
      s.capPaused := rfl
@[simp] theorem startTransmit_capActive (frame : List Byte) :
    (startTransmit frame s).capActive =
      s.capActive := rfl
@[simp] theorem startTransmit_capWr (frame : List Byte) :
    (startTransmit frame s).capWr =
      s.capWr := rfl
@[simp] theorem startTransmit_capRdyV (frame : List Byte) :
    (startTransmit frame s).capRdyV =
      s.capRdyV := rfl
@[simp] theorem startTransmit_capOut (frame : List Byte) :
    (startTransmit frame s).capOut =
      s.capOut := rfl
@[simp] theorem startTransmit_mem (frame : List Byte) : (startTransmit frame s).mem = s.mem := rfl
@[simp] theorem startTransmit_dmxSum (frame : List Byte) :
    (startTransmit frame s).dmxSum =
      s.dmxSum := rfl
@[simp] theorem startTransmit_doaPhase (frame : List Byte) :
    (startTransmit frame s).doaPhase =
      s.doaPhase := rfl
@[simp] theorem startTransmit_doaSrc (frame : List Byte) :
    (startTransmit frame s).doaSrc =
      s.doaSrc := rfl
@[simp] theorem startTransmit_doaNewest (frame : List Byte) :
    (startTransmit frame s).doaNewest =
      s.doaNewest := rfl
@[simp] theorem startTransmit_doaC (frame : List Byte) :
    (startTransmit frame s).doaC =
      s.doaC := rfl
@[simp] theorem startTransmit_doaI (frame : List Byte) :
    (startTransmit frame s).doaI =
      s.doaI := rfl
@[simp] theorem startTransmit_doaLag (frame : List Byte) :
    (startTransmit frame s).doaLag =
      s.doaLag := rfl
@[simp] theorem startTransmit_doaBearing (frame : List Byte) :
    (startTransmit frame s).doaBearing =
      s.doaBearing := rfl
@[simp] theorem startTransmit_lagTab (frame : List Byte) :
    (startTransmit frame s).lagTab =
      s.lagTab := rfl
@[simp] theorem startTransmit_srvGoal (frame : List Byte) :
    (startTransmit frame s).srvGoal =
      s.srvGoal := rfl
@[simp] theorem startTransmit_srvCur (frame : List Byte) :
    (startTransmit frame s).srvCur =
      s.srvCur := rfl
@[simp] theorem startTransmit_srvPulse (frame : List Byte) :
    (startTransmit frame s).srvPulse =
      s.srvPulse := rfl
@[simp] theorem startTransmit_rxAcc (frame : List Byte) :
    (startTransmit frame s).rxAcc =
      s.rxAcc := rfl
@[simp] theorem startTransmit_txBusy (frame : List Byte) :
    (startTransmit frame s).txBusy =
      true := rfl
@[simp] theorem startTransmit_txBuf (frame : List Byte) :
    (startTransmit frame s).txBuf =
      frame := rfl
@[simp] theorem startTransmit_linkTx (frame : List Byte) :
    (startTransmit frame s).linkTx =
      s.linkTx := rfl
@[simp] theorem startTransmit_txqR (frame : List Byte) :
    (startTransmit frame s).txqR =
      s.txqR := rfl
@[simp] theorem startTransmit_txqS (frame : List Byte) :
    (startTransmit frame s).txqS =
      s.txqS := rfl
@[simp] theorem startTransmit_cmdq (frame : List Byte) :
    (startTransmit frame s).cmdq =
      s.cmdq := rfl
@[simp] theorem startTransmit_pendBatch (frame : List Byte) :
    (startTransmit frame s).pendBatch =
      s.pendBatch := rfl
@[simp] theorem startTransmit_pendTxc (frame : List Byte) :
    (startTransmit frame s).pendTxc =
      s.pendTxc := rfl
@[simp] theorem startTransmit_pendDoa (frame : List Byte) :
    (startTransmit frame s).pendDoa =
      s.pendDoa := rfl
@[simp] theorem startTransmit_pendStick (frame : List Byte) :
    (startTransmit frame s).pendStick =
      s.pendStick := rfl
@[simp] theorem startTransmit_linkRxq (frame : List Byte) :
    (startTransmit frame s).linkRxq =
      s.linkRxq := rfl
@[simp] theorem startTransmit_diag (frame : List Byte) :
    (startTransmit frame s).diag =
      s.diag := rfl
@[simp] theorem startTransmit_gGap (frame : List Byte) :
    (startTransmit frame s).gGap =
      s.gGap := rfl
@[simp] theorem startTransmit_gOverrun (frame : List Byte) :
    (startTransmit frame s).gOverrun =
      s.gOverrun := rfl
@[simp] theorem startTransmit_gTxDrop (frame : List Byte) :
    (startTransmit frame s).gTxDrop =
      s.gTxDrop := rfl
@[simp] theorem startTransmit_gCmdDrop (frame : List Byte) :
    (startTransmit frame s).gCmdDrop =
      s.gCmdDrop := rfl
@[simp] theorem startTransmit_sched (frame : List Byte) :
    (startTransmit frame s).sched =
      s.sched := rfl
@[simp] theorem startTransmit_l2Draws (frame : List Byte) :
    (startTransmit frame s).l2Draws =
      s.l2Draws := rfl
@[simp] theorem startTransmit_ret (frame : List Byte) : (startTransmit frame s).ret = s.ret := rfl

/-! ### `correlate` -/

@[simp] theorem correlate_cfg (x y : List Sample) : (correlate x y s).cfg = s.cfg := rfl
@[simp] theorem correlate_inReset (x y : List Sample) : (correlate x y s).inReset = s.inReset := rfl
@[simp] theorem correlate_capEn (x y : List Sample) : (correlate x y s).capEn = s.capEn := rfl
@[simp] theorem correlate_capPaused (x y : List Sample) :
    (correlate x y s).capPaused =
      s.capPaused := rfl
@[simp] theorem correlate_capActive (x y : List Sample) :
    (correlate x y s).capActive =
      s.capActive := rfl
@[simp] theorem correlate_capWr (x y : List Sample) : (correlate x y s).capWr = s.capWr := rfl
@[simp] theorem correlate_capRdyV (x y : List Sample) : (correlate x y s).capRdyV = s.capRdyV := rfl
@[simp] theorem correlate_capOut (x y : List Sample) : (correlate x y s).capOut = s.capOut := rfl
@[simp] theorem correlate_mem (x y : List Sample) :
    (correlate x y s).mem =
      s.mem.setCorr (xcorr s.cfg.xcorrLen x y) := rfl
@[simp] theorem correlate_dmxSum (x y : List Sample) : (correlate x y s).dmxSum = s.dmxSum := rfl
@[simp] theorem correlate_doaPhase (x y : List Sample) :
    (correlate x y s).doaPhase =
      s.doaPhase := rfl
@[simp] theorem correlate_doaSrc (x y : List Sample) : (correlate x y s).doaSrc = s.doaSrc := rfl
@[simp] theorem correlate_doaNewest (x y : List Sample) :
    (correlate x y s).doaNewest =
      s.doaNewest := rfl
@[simp] theorem correlate_doaC (x y : List Sample) : (correlate x y s).doaC = s.doaC := rfl
@[simp] theorem correlate_doaI (x y : List Sample) : (correlate x y s).doaI = s.doaI := rfl
@[simp] theorem correlate_doaLag (x y : List Sample) : (correlate x y s).doaLag = s.doaLag := rfl
@[simp] theorem correlate_doaBearing (x y : List Sample) :
    (correlate x y s).doaBearing =
      s.doaBearing := rfl
@[simp] theorem correlate_lagTab (x y : List Sample) : (correlate x y s).lagTab = s.lagTab := rfl
@[simp] theorem correlate_srvGoal (x y : List Sample) : (correlate x y s).srvGoal = s.srvGoal := rfl
@[simp] theorem correlate_srvCur (x y : List Sample) : (correlate x y s).srvCur = s.srvCur := rfl
@[simp] theorem correlate_srvPulse (x y : List Sample) :
    (correlate x y s).srvPulse =
      s.srvPulse := rfl
@[simp] theorem correlate_rxAcc (x y : List Sample) : (correlate x y s).rxAcc = s.rxAcc := rfl
@[simp] theorem correlate_txBusy (x y : List Sample) : (correlate x y s).txBusy = s.txBusy := rfl
@[simp] theorem correlate_txBuf (x y : List Sample) : (correlate x y s).txBuf = s.txBuf := rfl
@[simp] theorem correlate_linkTx (x y : List Sample) : (correlate x y s).linkTx = s.linkTx := rfl
@[simp] theorem correlate_txqR (x y : List Sample) : (correlate x y s).txqR = s.txqR := rfl
@[simp] theorem correlate_txqS (x y : List Sample) : (correlate x y s).txqS = s.txqS := rfl
@[simp] theorem correlate_cmdq (x y : List Sample) : (correlate x y s).cmdq = s.cmdq := rfl
@[simp] theorem correlate_pendBatch (x y : List Sample) :
    (correlate x y s).pendBatch =
      s.pendBatch := rfl
@[simp] theorem correlate_pendTxc (x y : List Sample) : (correlate x y s).pendTxc = s.pendTxc := rfl
@[simp] theorem correlate_pendDoa (x y : List Sample) : (correlate x y s).pendDoa = s.pendDoa := rfl
@[simp] theorem correlate_pendStick (x y : List Sample) :
    (correlate x y s).pendStick =
      s.pendStick := rfl
@[simp] theorem correlate_linkRxq (x y : List Sample) : (correlate x y s).linkRxq = s.linkRxq := rfl
@[simp] theorem correlate_diag (x y : List Sample) : (correlate x y s).diag = s.diag := rfl
@[simp] theorem correlate_gGap (x y : List Sample) : (correlate x y s).gGap = s.gGap := rfl
@[simp] theorem correlate_gOverrun (x y : List Sample) :
    (correlate x y s).gOverrun =
      s.gOverrun := rfl
@[simp] theorem correlate_gTxDrop (x y : List Sample) : (correlate x y s).gTxDrop = s.gTxDrop := rfl
@[simp] theorem correlate_gCmdDrop (x y : List Sample) :
    (correlate x y s).gCmdDrop =
      s.gCmdDrop := rfl
@[simp] theorem correlate_sched (x y : List Sample) : (correlate x y s).sched = s.sched := rfl
@[simp] theorem correlate_l2Draws (x y : List Sample) : (correlate x y s).l2Draws = s.l2Draws := rfl
@[simp] theorem correlate_ret (x y : List Sample) : (correlate x y s).ret = s.ret := rfl

/-! ### `writeGoal` -/

@[simp] theorem writeGoal_cfg (a : Axis) (degrees : Angle) :
    (writeGoal a degrees s).cfg =
      s.cfg := rfl
@[simp] theorem writeGoal_inReset (a : Axis) (degrees : Angle) :
    (writeGoal a degrees s).inReset =
      s.inReset := rfl
@[simp] theorem writeGoal_capEn (a : Axis) (degrees : Angle) :
    (writeGoal a degrees s).capEn =
      s.capEn := rfl
@[simp] theorem writeGoal_capPaused (a : Axis) (degrees : Angle) :
    (writeGoal a degrees s).capPaused =
      s.capPaused := rfl
@[simp] theorem writeGoal_capActive (a : Axis) (degrees : Angle) :
    (writeGoal a degrees s).capActive =
      s.capActive := rfl
@[simp] theorem writeGoal_capWr (a : Axis) (degrees : Angle) :
    (writeGoal a degrees s).capWr =
      s.capWr := rfl
@[simp] theorem writeGoal_capRdyV (a : Axis) (degrees : Angle) :
    (writeGoal a degrees s).capRdyV =
      s.capRdyV := rfl
@[simp] theorem writeGoal_capOut (a : Axis) (degrees : Angle) :
    (writeGoal a degrees s).capOut =
      s.capOut := rfl
@[simp] theorem writeGoal_mem (a : Axis) (degrees : Angle) :
    (writeGoal a degrees s).mem =
      s.mem := rfl
@[simp] theorem writeGoal_dmxSum (a : Axis) (degrees : Angle) :
    (writeGoal a degrees s).dmxSum =
      s.dmxSum := rfl
@[simp] theorem writeGoal_doaPhase (a : Axis) (degrees : Angle) :
    (writeGoal a degrees s).doaPhase =
      s.doaPhase := rfl
@[simp] theorem writeGoal_doaSrc (a : Axis) (degrees : Angle) :
    (writeGoal a degrees s).doaSrc =
      s.doaSrc := rfl
@[simp] theorem writeGoal_doaNewest (a : Axis) (degrees : Angle) :
    (writeGoal a degrees s).doaNewest =
      s.doaNewest := rfl
@[simp] theorem writeGoal_doaC (a : Axis) (degrees : Angle) :
    (writeGoal a degrees s).doaC =
      s.doaC := rfl
@[simp] theorem writeGoal_doaI (a : Axis) (degrees : Angle) :
    (writeGoal a degrees s).doaI =
      s.doaI := rfl
@[simp] theorem writeGoal_doaLag (a : Axis) (degrees : Angle) :
    (writeGoal a degrees s).doaLag =
      s.doaLag := rfl
@[simp] theorem writeGoal_doaBearing (a : Axis) (degrees : Angle) :
    (writeGoal a degrees s).doaBearing =
      s.doaBearing := rfl
@[simp] theorem writeGoal_lagTab (a : Axis) (degrees : Angle) :
    (writeGoal a degrees s).lagTab =
      s.lagTab := rfl
@[simp] theorem writeGoal_srvGoal (a : Axis) (degrees : Angle) :
    (writeGoal a degrees s).srvGoal =
      s.srvGoal.set a (clampAngle s.cfg a degrees.toInt) := rfl
@[simp] theorem writeGoal_srvCur (a : Axis) (degrees : Angle) :
    (writeGoal a degrees s).srvCur =
      s.srvCur := rfl
@[simp] theorem writeGoal_srvPulse (a : Axis) (degrees : Angle) :
    (writeGoal a degrees s).srvPulse =
      s.srvPulse := rfl
@[simp] theorem writeGoal_rxAcc (a : Axis) (degrees : Angle) :
    (writeGoal a degrees s).rxAcc =
      s.rxAcc := rfl
@[simp] theorem writeGoal_txBusy (a : Axis) (degrees : Angle) :
    (writeGoal a degrees s).txBusy =
      s.txBusy := rfl
@[simp] theorem writeGoal_txBuf (a : Axis) (degrees : Angle) :
    (writeGoal a degrees s).txBuf =
      s.txBuf := rfl
@[simp] theorem writeGoal_linkTx (a : Axis) (degrees : Angle) :
    (writeGoal a degrees s).linkTx =
      s.linkTx := rfl
@[simp] theorem writeGoal_txqR (a : Axis) (degrees : Angle) :
    (writeGoal a degrees s).txqR =
      s.txqR := rfl
@[simp] theorem writeGoal_txqS (a : Axis) (degrees : Angle) :
    (writeGoal a degrees s).txqS =
      s.txqS := rfl
@[simp] theorem writeGoal_cmdq (a : Axis) (degrees : Angle) :
    (writeGoal a degrees s).cmdq =
      s.cmdq := rfl
@[simp] theorem writeGoal_pendBatch (a : Axis) (degrees : Angle) :
    (writeGoal a degrees s).pendBatch =
      s.pendBatch := rfl
@[simp] theorem writeGoal_pendTxc (a : Axis) (degrees : Angle) :
    (writeGoal a degrees s).pendTxc =
      s.pendTxc := rfl
@[simp] theorem writeGoal_pendDoa (a : Axis) (degrees : Angle) :
    (writeGoal a degrees s).pendDoa =
      s.pendDoa := rfl
@[simp] theorem writeGoal_pendStick (a : Axis) (degrees : Angle) :
    (writeGoal a degrees s).pendStick =
      s.pendStick := rfl
@[simp] theorem writeGoal_linkRxq (a : Axis) (degrees : Angle) :
    (writeGoal a degrees s).linkRxq =
      s.linkRxq := rfl
@[simp] theorem writeGoal_diag (a : Axis) (degrees : Angle) :
    (writeGoal a degrees s).diag =
      s.diag := rfl
@[simp] theorem writeGoal_gGap (a : Axis) (degrees : Angle) :
    (writeGoal a degrees s).gGap =
      s.gGap := rfl
@[simp] theorem writeGoal_gOverrun (a : Axis) (degrees : Angle) :
    (writeGoal a degrees s).gOverrun =
      s.gOverrun := rfl
@[simp] theorem writeGoal_gTxDrop (a : Axis) (degrees : Angle) :
    (writeGoal a degrees s).gTxDrop =
      s.gTxDrop := rfl
@[simp] theorem writeGoal_gCmdDrop (a : Axis) (degrees : Angle) :
    (writeGoal a degrees s).gCmdDrop =
      s.gCmdDrop := rfl
@[simp] theorem writeGoal_sched (a : Axis) (degrees : Angle) :
    (writeGoal a degrees s).sched =
      s.sched := rfl
@[simp] theorem writeGoal_l2Draws (a : Axis) (degrees : Angle) :
    (writeGoal a degrees s).l2Draws =
      s.l2Draws := rfl
@[simp] theorem writeGoal_ret (a : Axis) (degrees : Angle) :
    (writeGoal a degrees s).ret =
      s.ret := rfl

/-! ### `addOffset` -/

@[simp] theorem addOffset_cfg (a : Axis) (bearing : Byte) :
    (addOffset a bearing s).cfg =
      s.cfg := rfl
@[simp] theorem addOffset_inReset (a : Axis) (bearing : Byte) :
    (addOffset a bearing s).inReset =
      s.inReset := rfl
@[simp] theorem addOffset_capEn (a : Axis) (bearing : Byte) :
    (addOffset a bearing s).capEn =
      s.capEn := rfl
@[simp] theorem addOffset_capPaused (a : Axis) (bearing : Byte) :
    (addOffset a bearing s).capPaused =
      s.capPaused := rfl
@[simp] theorem addOffset_capActive (a : Axis) (bearing : Byte) :
    (addOffset a bearing s).capActive =
      s.capActive := rfl
@[simp] theorem addOffset_capWr (a : Axis) (bearing : Byte) :
    (addOffset a bearing s).capWr =
      s.capWr := rfl
@[simp] theorem addOffset_capRdyV (a : Axis) (bearing : Byte) :
    (addOffset a bearing s).capRdyV =
      s.capRdyV := rfl
@[simp] theorem addOffset_capOut (a : Axis) (bearing : Byte) :
    (addOffset a bearing s).capOut =
      s.capOut := rfl
@[simp] theorem addOffset_mem (a : Axis) (bearing : Byte) :
    (addOffset a bearing s).mem =
      s.mem := rfl
@[simp] theorem addOffset_dmxSum (a : Axis) (bearing : Byte) :
    (addOffset a bearing s).dmxSum =
      s.dmxSum := rfl
@[simp] theorem addOffset_doaPhase (a : Axis) (bearing : Byte) :
    (addOffset a bearing s).doaPhase =
      s.doaPhase := rfl
@[simp] theorem addOffset_doaSrc (a : Axis) (bearing : Byte) :
    (addOffset a bearing s).doaSrc =
      s.doaSrc := rfl
@[simp] theorem addOffset_doaNewest (a : Axis) (bearing : Byte) :
    (addOffset a bearing s).doaNewest =
      s.doaNewest := rfl
@[simp] theorem addOffset_doaC (a : Axis) (bearing : Byte) :
    (addOffset a bearing s).doaC =
      s.doaC := rfl
@[simp] theorem addOffset_doaI (a : Axis) (bearing : Byte) :
    (addOffset a bearing s).doaI =
      s.doaI := rfl
@[simp] theorem addOffset_doaLag (a : Axis) (bearing : Byte) :
    (addOffset a bearing s).doaLag =
      s.doaLag := rfl
@[simp] theorem addOffset_doaBearing (a : Axis) (bearing : Byte) :
    (addOffset a bearing s).doaBearing =
      s.doaBearing := rfl
@[simp] theorem addOffset_lagTab (a : Axis) (bearing : Byte) :
    (addOffset a bearing s).lagTab =
      s.lagTab := rfl
@[simp] theorem addOffset_srvGoal (a : Axis) (bearing : Byte) :
    (addOffset a bearing s).srvGoal =
      s.srvGoal.set a (offsetGoal s.cfg a (s.srvCur.get a) bearing) := rfl
@[simp] theorem addOffset_srvCur (a : Axis) (bearing : Byte) :
    (addOffset a bearing s).srvCur =
      s.srvCur := rfl
@[simp] theorem addOffset_srvPulse (a : Axis) (bearing : Byte) :
    (addOffset a bearing s).srvPulse =
      s.srvPulse := rfl
@[simp] theorem addOffset_rxAcc (a : Axis) (bearing : Byte) :
    (addOffset a bearing s).rxAcc =
      s.rxAcc := rfl
@[simp] theorem addOffset_txBusy (a : Axis) (bearing : Byte) :
    (addOffset a bearing s).txBusy =
      s.txBusy := rfl
@[simp] theorem addOffset_txBuf (a : Axis) (bearing : Byte) :
    (addOffset a bearing s).txBuf =
      s.txBuf := rfl
@[simp] theorem addOffset_linkTx (a : Axis) (bearing : Byte) :
    (addOffset a bearing s).linkTx =
      s.linkTx := rfl
@[simp] theorem addOffset_txqR (a : Axis) (bearing : Byte) :
    (addOffset a bearing s).txqR =
      s.txqR := rfl
@[simp] theorem addOffset_txqS (a : Axis) (bearing : Byte) :
    (addOffset a bearing s).txqS =
      s.txqS := rfl
@[simp] theorem addOffset_cmdq (a : Axis) (bearing : Byte) :
    (addOffset a bearing s).cmdq =
      s.cmdq := rfl
@[simp] theorem addOffset_pendBatch (a : Axis) (bearing : Byte) :
    (addOffset a bearing s).pendBatch =
      s.pendBatch := rfl
@[simp] theorem addOffset_pendTxc (a : Axis) (bearing : Byte) :
    (addOffset a bearing s).pendTxc =
      s.pendTxc := rfl
@[simp] theorem addOffset_pendDoa (a : Axis) (bearing : Byte) :
    (addOffset a bearing s).pendDoa =
      s.pendDoa := rfl
@[simp] theorem addOffset_pendStick (a : Axis) (bearing : Byte) :
    (addOffset a bearing s).pendStick =
      s.pendStick := rfl
@[simp] theorem addOffset_linkRxq (a : Axis) (bearing : Byte) :
    (addOffset a bearing s).linkRxq =
      s.linkRxq := rfl
@[simp] theorem addOffset_diag (a : Axis) (bearing : Byte) :
    (addOffset a bearing s).diag =
      s.diag := rfl
@[simp] theorem addOffset_gGap (a : Axis) (bearing : Byte) :
    (addOffset a bearing s).gGap =
      s.gGap := rfl
@[simp] theorem addOffset_gOverrun (a : Axis) (bearing : Byte) :
    (addOffset a bearing s).gOverrun =
      s.gOverrun := rfl
@[simp] theorem addOffset_gTxDrop (a : Axis) (bearing : Byte) :
    (addOffset a bearing s).gTxDrop =
      s.gTxDrop := rfl
@[simp] theorem addOffset_gCmdDrop (a : Axis) (bearing : Byte) :
    (addOffset a bearing s).gCmdDrop =
      s.gCmdDrop := rfl
@[simp] theorem addOffset_sched (a : Axis) (bearing : Byte) :
    (addOffset a bearing s).sched =
      s.sched := rfl
@[simp] theorem addOffset_l2Draws (a : Axis) (bearing : Byte) :
    (addOffset a bearing s).l2Draws =
      s.l2Draws := rfl
@[simp] theorem addOffset_ret (a : Axis) (bearing : Byte) :
    (addOffset a bearing s).ret =
      s.ret := rfl

/-! ### `stepAxis` -/

@[simp] theorem stepAxis_cfg (a : Axis) : (stepAxis a s).cfg = s.cfg := rfl
@[simp] theorem stepAxis_inReset (a : Axis) : (stepAxis a s).inReset = s.inReset := rfl
@[simp] theorem stepAxis_capEn (a : Axis) : (stepAxis a s).capEn = s.capEn := rfl
@[simp] theorem stepAxis_capPaused (a : Axis) : (stepAxis a s).capPaused = s.capPaused := rfl
@[simp] theorem stepAxis_capActive (a : Axis) : (stepAxis a s).capActive = s.capActive := rfl
@[simp] theorem stepAxis_capWr (a : Axis) : (stepAxis a s).capWr = s.capWr := rfl
@[simp] theorem stepAxis_capRdyV (a : Axis) : (stepAxis a s).capRdyV = s.capRdyV := rfl
@[simp] theorem stepAxis_capOut (a : Axis) : (stepAxis a s).capOut = s.capOut := rfl
@[simp] theorem stepAxis_mem (a : Axis) : (stepAxis a s).mem = s.mem := rfl
@[simp] theorem stepAxis_dmxSum (a : Axis) : (stepAxis a s).dmxSum = s.dmxSum := rfl
@[simp] theorem stepAxis_doaPhase (a : Axis) : (stepAxis a s).doaPhase = s.doaPhase := rfl
@[simp] theorem stepAxis_doaSrc (a : Axis) : (stepAxis a s).doaSrc = s.doaSrc := rfl
@[simp] theorem stepAxis_doaNewest (a : Axis) : (stepAxis a s).doaNewest = s.doaNewest := rfl
@[simp] theorem stepAxis_doaC (a : Axis) : (stepAxis a s).doaC = s.doaC := rfl
@[simp] theorem stepAxis_doaI (a : Axis) : (stepAxis a s).doaI = s.doaI := rfl
@[simp] theorem stepAxis_doaLag (a : Axis) : (stepAxis a s).doaLag = s.doaLag := rfl
@[simp] theorem stepAxis_doaBearing (a : Axis) : (stepAxis a s).doaBearing = s.doaBearing := rfl
@[simp] theorem stepAxis_lagTab (a : Axis) : (stepAxis a s).lagTab = s.lagTab := rfl
@[simp] theorem stepAxis_srvGoal (a : Axis) : (stepAxis a s).srvGoal = s.srvGoal := rfl
@[simp] theorem stepAxis_srvCur (a : Axis) :
    (stepAxis a s).srvCur =
      s.srvCur.set a (stepAngle (s.srvCur.get a) (s.srvGoal.get a)) := rfl
@[simp] theorem stepAxis_srvPulse (a : Axis) :
    (stepAxis a s).srvPulse =
      s.srvPulse.set a (degToPulse s.cfg a (stepAngle (s.srvCur.get a) (s.srvGoal.get a)).toInt) := rfl
@[simp] theorem stepAxis_rxAcc (a : Axis) : (stepAxis a s).rxAcc = s.rxAcc := rfl
@[simp] theorem stepAxis_txBusy (a : Axis) : (stepAxis a s).txBusy = s.txBusy := rfl
@[simp] theorem stepAxis_txBuf (a : Axis) : (stepAxis a s).txBuf = s.txBuf := rfl
@[simp] theorem stepAxis_linkTx (a : Axis) : (stepAxis a s).linkTx = s.linkTx := rfl
@[simp] theorem stepAxis_txqR (a : Axis) : (stepAxis a s).txqR = s.txqR := rfl
@[simp] theorem stepAxis_txqS (a : Axis) : (stepAxis a s).txqS = s.txqS := rfl
@[simp] theorem stepAxis_cmdq (a : Axis) : (stepAxis a s).cmdq = s.cmdq := rfl
@[simp] theorem stepAxis_pendBatch (a : Axis) : (stepAxis a s).pendBatch = s.pendBatch := rfl
@[simp] theorem stepAxis_pendTxc (a : Axis) : (stepAxis a s).pendTxc = s.pendTxc := rfl
@[simp] theorem stepAxis_pendDoa (a : Axis) : (stepAxis a s).pendDoa = s.pendDoa := rfl
@[simp] theorem stepAxis_pendStick (a : Axis) : (stepAxis a s).pendStick = s.pendStick := rfl
@[simp] theorem stepAxis_linkRxq (a : Axis) : (stepAxis a s).linkRxq = s.linkRxq := rfl
@[simp] theorem stepAxis_diag (a : Axis) : (stepAxis a s).diag = s.diag := rfl
@[simp] theorem stepAxis_gGap (a : Axis) : (stepAxis a s).gGap = s.gGap := rfl
@[simp] theorem stepAxis_gOverrun (a : Axis) : (stepAxis a s).gOverrun = s.gOverrun := rfl
@[simp] theorem stepAxis_gTxDrop (a : Axis) : (stepAxis a s).gTxDrop = s.gTxDrop := rfl
@[simp] theorem stepAxis_gCmdDrop (a : Axis) : (stepAxis a s).gCmdDrop = s.gCmdDrop := rfl
@[simp] theorem stepAxis_sched (a : Axis) : (stepAxis a s).sched = s.sched := rfl
@[simp] theorem stepAxis_l2Draws (a : Axis) : (stepAxis a s).l2Draws = s.l2Draws := rfl
@[simp] theorem stepAxis_ret (a : Axis) : (stepAxis a s).ret = s.ret := rfl

/-! ### `deliverChunk` -/

@[simp] theorem deliverChunk_cfg (chunk : List Byte) : (deliverChunk chunk s).cfg = s.cfg := rfl
@[simp] theorem deliverChunk_inReset (chunk : List Byte) :
    (deliverChunk chunk s).inReset =
      s.inReset := rfl
@[simp] theorem deliverChunk_capEn (chunk : List Byte) :
    (deliverChunk chunk s).capEn =
      s.capEn := rfl
@[simp] theorem deliverChunk_capPaused (chunk : List Byte) :
    (deliverChunk chunk s).capPaused =
      s.capPaused := rfl
@[simp] theorem deliverChunk_capActive (chunk : List Byte) :
    (deliverChunk chunk s).capActive =
      s.capActive := rfl
@[simp] theorem deliverChunk_capWr (chunk : List Byte) :
    (deliverChunk chunk s).capWr =
      s.capWr := rfl
@[simp] theorem deliverChunk_capRdyV (chunk : List Byte) :
    (deliverChunk chunk s).capRdyV =
      s.capRdyV := rfl
@[simp] theorem deliverChunk_capOut (chunk : List Byte) :
    (deliverChunk chunk s).capOut =
      s.capOut := rfl
@[simp] theorem deliverChunk_mem (chunk : List Byte) : (deliverChunk chunk s).mem = s.mem := rfl
@[simp] theorem deliverChunk_dmxSum (chunk : List Byte) :
    (deliverChunk chunk s).dmxSum =
      s.dmxSum := rfl
@[simp] theorem deliverChunk_doaPhase (chunk : List Byte) :
    (deliverChunk chunk s).doaPhase =
      s.doaPhase := rfl
@[simp] theorem deliverChunk_doaSrc (chunk : List Byte) :
    (deliverChunk chunk s).doaSrc =
      s.doaSrc := rfl
@[simp] theorem deliverChunk_doaNewest (chunk : List Byte) :
    (deliverChunk chunk s).doaNewest =
      s.doaNewest := rfl
@[simp] theorem deliverChunk_doaC (chunk : List Byte) : (deliverChunk chunk s).doaC = s.doaC := rfl
@[simp] theorem deliverChunk_doaI (chunk : List Byte) : (deliverChunk chunk s).doaI = s.doaI := rfl
@[simp] theorem deliverChunk_doaLag (chunk : List Byte) :
    (deliverChunk chunk s).doaLag =
      s.doaLag := rfl
@[simp] theorem deliverChunk_doaBearing (chunk : List Byte) :
    (deliverChunk chunk s).doaBearing =
      s.doaBearing := rfl
@[simp] theorem deliverChunk_lagTab (chunk : List Byte) :
    (deliverChunk chunk s).lagTab =
      s.lagTab := rfl
@[simp] theorem deliverChunk_srvGoal (chunk : List Byte) :
    (deliverChunk chunk s).srvGoal =
      s.srvGoal := rfl
@[simp] theorem deliverChunk_srvCur (chunk : List Byte) :
    (deliverChunk chunk s).srvCur =
      s.srvCur := rfl
@[simp] theorem deliverChunk_srvPulse (chunk : List Byte) :
    (deliverChunk chunk s).srvPulse =
      s.srvPulse := rfl
@[simp] theorem deliverChunk_rxAcc (chunk : List Byte) :
    (deliverChunk chunk s).rxAcc =
      s.rxAcc := rfl
@[simp] theorem deliverChunk_txBusy (chunk : List Byte) :
    (deliverChunk chunk s).txBusy =
      s.txBusy := rfl
@[simp] theorem deliverChunk_txBuf (chunk : List Byte) :
    (deliverChunk chunk s).txBuf =
      s.txBuf := rfl
@[simp] theorem deliverChunk_linkTx (chunk : List Byte) :
    (deliverChunk chunk s).linkTx =
      s.linkTx := rfl
@[simp] theorem deliverChunk_txqR (chunk : List Byte) : (deliverChunk chunk s).txqR = s.txqR := rfl
@[simp] theorem deliverChunk_txqS (chunk : List Byte) : (deliverChunk chunk s).txqS = s.txqS := rfl
@[simp] theorem deliverChunk_cmdq (chunk : List Byte) : (deliverChunk chunk s).cmdq = s.cmdq := rfl
@[simp] theorem deliverChunk_pendBatch (chunk : List Byte) :
    (deliverChunk chunk s).pendBatch =
      s.pendBatch := rfl
@[simp] theorem deliverChunk_pendTxc (chunk : List Byte) :
    (deliverChunk chunk s).pendTxc =
      s.pendTxc := rfl
@[simp] theorem deliverChunk_pendDoa (chunk : List Byte) :
    (deliverChunk chunk s).pendDoa =
      s.pendDoa := rfl
@[simp] theorem deliverChunk_pendStick (chunk : List Byte) :
    (deliverChunk chunk s).pendStick =
      s.pendStick := rfl
@[simp] theorem deliverChunk_linkRxq (chunk : List Byte) :
    (deliverChunk chunk s).linkRxq =
      s.linkRxq ++ [chunk] := rfl
@[simp] theorem deliverChunk_diag (chunk : List Byte) : (deliverChunk chunk s).diag = s.diag := rfl
@[simp] theorem deliverChunk_gGap (chunk : List Byte) : (deliverChunk chunk s).gGap = s.gGap := rfl
@[simp] theorem deliverChunk_gOverrun (chunk : List Byte) :
    (deliverChunk chunk s).gOverrun =
      s.gOverrun := rfl
@[simp] theorem deliverChunk_gTxDrop (chunk : List Byte) :
    (deliverChunk chunk s).gTxDrop =
      s.gTxDrop := rfl
@[simp] theorem deliverChunk_gCmdDrop (chunk : List Byte) :
    (deliverChunk chunk s).gCmdDrop =
      s.gCmdDrop := rfl
@[simp] theorem deliverChunk_sched (chunk : List Byte) :
    (deliverChunk chunk s).sched =
      s.sched := rfl
@[simp] theorem deliverChunk_l2Draws (chunk : List Byte) :
    (deliverChunk chunk s).l2Draws =
      s.l2Draws := rfl
@[simp] theorem deliverChunk_ret (chunk : List Byte) : (deliverChunk chunk s).ret = s.ret := rfl

/-! ### `pendServoTick` -/

@[simp] theorem pendServoTick_cfg : (pendServoTick s).cfg = s.cfg := rfl
@[simp] theorem pendServoTick_inReset : (pendServoTick s).inReset = s.inReset := rfl
@[simp] theorem pendServoTick_capEn : (pendServoTick s).capEn = s.capEn := rfl
@[simp] theorem pendServoTick_capPaused : (pendServoTick s).capPaused = s.capPaused := rfl
@[simp] theorem pendServoTick_capActive : (pendServoTick s).capActive = s.capActive := rfl
@[simp] theorem pendServoTick_capWr : (pendServoTick s).capWr = s.capWr := rfl
@[simp] theorem pendServoTick_capRdyV : (pendServoTick s).capRdyV = s.capRdyV := rfl
@[simp] theorem pendServoTick_capOut : (pendServoTick s).capOut = s.capOut := rfl
@[simp] theorem pendServoTick_mem : (pendServoTick s).mem = s.mem := rfl
@[simp] theorem pendServoTick_dmxSum : (pendServoTick s).dmxSum = s.dmxSum := rfl
@[simp] theorem pendServoTick_doaPhase : (pendServoTick s).doaPhase = s.doaPhase := rfl
@[simp] theorem pendServoTick_doaSrc : (pendServoTick s).doaSrc = s.doaSrc := rfl
@[simp] theorem pendServoTick_doaNewest : (pendServoTick s).doaNewest = s.doaNewest := rfl
@[simp] theorem pendServoTick_doaC : (pendServoTick s).doaC = s.doaC := rfl
@[simp] theorem pendServoTick_doaI : (pendServoTick s).doaI = s.doaI := rfl
@[simp] theorem pendServoTick_doaLag : (pendServoTick s).doaLag = s.doaLag := rfl
@[simp] theorem pendServoTick_doaBearing : (pendServoTick s).doaBearing = s.doaBearing := rfl
@[simp] theorem pendServoTick_lagTab : (pendServoTick s).lagTab = s.lagTab := rfl
@[simp] theorem pendServoTick_srvGoal : (pendServoTick s).srvGoal = s.srvGoal := rfl
@[simp] theorem pendServoTick_srvCur : (pendServoTick s).srvCur = s.srvCur := rfl
@[simp] theorem pendServoTick_srvPulse : (pendServoTick s).srvPulse = s.srvPulse := rfl
@[simp] theorem pendServoTick_rxAcc : (pendServoTick s).rxAcc = s.rxAcc := rfl
@[simp] theorem pendServoTick_txBusy : (pendServoTick s).txBusy = s.txBusy := rfl
@[simp] theorem pendServoTick_txBuf : (pendServoTick s).txBuf = s.txBuf := rfl
@[simp] theorem pendServoTick_linkTx : (pendServoTick s).linkTx = s.linkTx := rfl
@[simp] theorem pendServoTick_txqR : (pendServoTick s).txqR = s.txqR := rfl
@[simp] theorem pendServoTick_txqS : (pendServoTick s).txqS = s.txqS := rfl
@[simp] theorem pendServoTick_cmdq : (pendServoTick s).cmdq = s.cmdq := rfl
@[simp] theorem pendServoTick_pendBatch : (pendServoTick s).pendBatch = s.pendBatch := rfl
@[simp] theorem pendServoTick_pendTxc : (pendServoTick s).pendTxc = s.pendTxc := rfl
@[simp] theorem pendServoTick_pendDoa : (pendServoTick s).pendDoa = s.pendDoa := rfl
@[simp] theorem pendServoTick_pendStick : (pendServoTick s).pendStick = true := rfl
@[simp] theorem pendServoTick_linkRxq : (pendServoTick s).linkRxq = s.linkRxq := rfl
@[simp] theorem pendServoTick_diag : (pendServoTick s).diag = s.diag := rfl
@[simp] theorem pendServoTick_gGap : (pendServoTick s).gGap = s.gGap := rfl
@[simp] theorem pendServoTick_gOverrun : (pendServoTick s).gOverrun = s.gOverrun := rfl
@[simp] theorem pendServoTick_gTxDrop : (pendServoTick s).gTxDrop = s.gTxDrop := rfl
@[simp] theorem pendServoTick_gCmdDrop : (pendServoTick s).gCmdDrop = s.gCmdDrop := rfl
@[simp] theorem pendServoTick_sched : (pendServoTick s).sched = s.sched := rfl
@[simp] theorem pendServoTick_l2Draws : (pendServoTick s).l2Draws = s.l2Draws := rfl
@[simp] theorem pendServoTick_ret : (pendServoTick s).ret = s.ret := rfl

/-! ### `doaStart` -/

@[simp] theorem doaStart_cfg : (doaStart s).cfg = s.cfg := rfl
@[simp] theorem doaStart_inReset : (doaStart s).inReset = s.inReset := rfl
@[simp] theorem doaStart_capEn : (doaStart s).capEn = s.capEn := rfl
@[simp] theorem doaStart_capPaused : (doaStart s).capPaused = s.capPaused := rfl
@[simp] theorem doaStart_capActive : (doaStart s).capActive = s.capActive := rfl
@[simp] theorem doaStart_capWr : (doaStart s).capWr = s.capWr := rfl
@[simp] theorem doaStart_capRdyV : (doaStart s).capRdyV = s.capRdyV := rfl
@[simp] theorem doaStart_capOut : (doaStart s).capOut = s.capOut := rfl
@[simp] theorem doaStart_mem : (doaStart s).mem = s.mem := rfl
@[simp] theorem doaStart_dmxSum : (doaStart s).dmxSum = 0 := rfl
@[simp] theorem doaStart_doaPhase :
    (doaStart s).doaPhase =
      if s.cfg.sendSamples then .copyTx else .demux := rfl
@[simp] theorem doaStart_doaSrc : (doaStart s).doaSrc = s.doaNewest := rfl
@[simp] theorem doaStart_doaNewest : (doaStart s).doaNewest = s.doaNewest := rfl
@[simp] theorem doaStart_doaC : (doaStart s).doaC = 0 := rfl
@[simp] theorem doaStart_doaI : (doaStart s).doaI = 0 := rfl
@[simp] theorem doaStart_doaLag : (doaStart s).doaLag = s.doaLag := rfl
@[simp] theorem doaStart_doaBearing : (doaStart s).doaBearing = s.doaBearing := rfl
@[simp] theorem doaStart_lagTab : (doaStart s).lagTab = s.lagTab := rfl
@[simp] theorem doaStart_srvGoal : (doaStart s).srvGoal = s.srvGoal := rfl
@[simp] theorem doaStart_srvCur : (doaStart s).srvCur = s.srvCur := rfl
@[simp] theorem doaStart_srvPulse : (doaStart s).srvPulse = s.srvPulse := rfl
@[simp] theorem doaStart_rxAcc : (doaStart s).rxAcc = s.rxAcc := rfl
@[simp] theorem doaStart_txBusy : (doaStart s).txBusy = s.txBusy := rfl
@[simp] theorem doaStart_txBuf : (doaStart s).txBuf = s.txBuf := rfl
@[simp] theorem doaStart_linkTx : (doaStart s).linkTx = s.linkTx := rfl
@[simp] theorem doaStart_txqR : (doaStart s).txqR = s.txqR := rfl
@[simp] theorem doaStart_txqS : (doaStart s).txqS = s.txqS := rfl
@[simp] theorem doaStart_cmdq : (doaStart s).cmdq = s.cmdq := rfl
@[simp] theorem doaStart_pendBatch : (doaStart s).pendBatch = s.pendBatch := rfl
@[simp] theorem doaStart_pendTxc : (doaStart s).pendTxc = s.pendTxc := rfl
@[simp] theorem doaStart_pendDoa : (doaStart s).pendDoa = false := rfl
@[simp] theorem doaStart_pendStick : (doaStart s).pendStick = s.pendStick := rfl
@[simp] theorem doaStart_linkRxq : (doaStart s).linkRxq = s.linkRxq := rfl
@[simp] theorem doaStart_diag : (doaStart s).diag = s.diag := rfl
@[simp] theorem doaStart_gGap : (doaStart s).gGap = s.gGap := rfl
@[simp] theorem doaStart_gOverrun : (doaStart s).gOverrun = s.gOverrun := rfl
@[simp] theorem doaStart_gTxDrop : (doaStart s).gTxDrop = s.gTxDrop := rfl
@[simp] theorem doaStart_gCmdDrop : (doaStart s).gCmdDrop = s.gCmdDrop := rfl
@[simp] theorem doaStart_sched : (doaStart s).sched = s.sched := rfl
@[simp] theorem doaStart_l2Draws : (doaStart s).l2Draws = s.l2Draws := rfl
@[simp] theorem doaStart_ret : (doaStart s).ret = s.ret := rfl

/-! ### `demuxBatch` -/

@[simp] theorem demuxBatch_cfg (batch : List Frame) : (demuxBatch batch s).cfg = s.cfg := rfl
@[simp] theorem demuxBatch_inReset (batch : List Frame) :
    (demuxBatch batch s).inReset =
      s.inReset := rfl
@[simp] theorem demuxBatch_capEn (batch : List Frame) : (demuxBatch batch s).capEn = s.capEn := rfl
@[simp] theorem demuxBatch_capPaused (batch : List Frame) :
    (demuxBatch batch s).capPaused =
      s.capPaused := rfl
@[simp] theorem demuxBatch_capActive (batch : List Frame) :
    (demuxBatch batch s).capActive =
      s.capActive := rfl
@[simp] theorem demuxBatch_capWr (batch : List Frame) : (demuxBatch batch s).capWr = s.capWr := rfl
@[simp] theorem demuxBatch_capRdyV (batch : List Frame) :
    (demuxBatch batch s).capRdyV =
      s.capRdyV := rfl
@[simp] theorem demuxBatch_capOut (batch : List Frame) :
    (demuxBatch batch s).capOut =
      s.capOut := rfl
@[simp] theorem demuxBatch_doaPhase (batch : List Frame) :
    (demuxBatch batch s).doaPhase =
      s.doaPhase := rfl
@[simp] theorem demuxBatch_doaSrc (batch : List Frame) :
    (demuxBatch batch s).doaSrc =
      s.doaSrc := rfl
@[simp] theorem demuxBatch_doaNewest (batch : List Frame) :
    (demuxBatch batch s).doaNewest =
      s.doaNewest := rfl
@[simp] theorem demuxBatch_doaC (batch : List Frame) : (demuxBatch batch s).doaC = s.doaC := rfl
@[simp] theorem demuxBatch_doaI (batch : List Frame) : (demuxBatch batch s).doaI = s.doaI := rfl
@[simp] theorem demuxBatch_doaLag (batch : List Frame) :
    (demuxBatch batch s).doaLag =
      s.doaLag := rfl
@[simp] theorem demuxBatch_doaBearing (batch : List Frame) :
    (demuxBatch batch s).doaBearing =
      s.doaBearing := rfl
@[simp] theorem demuxBatch_lagTab (batch : List Frame) :
    (demuxBatch batch s).lagTab =
      s.lagTab := rfl
@[simp] theorem demuxBatch_srvGoal (batch : List Frame) :
    (demuxBatch batch s).srvGoal =
      s.srvGoal := rfl
@[simp] theorem demuxBatch_srvCur (batch : List Frame) :
    (demuxBatch batch s).srvCur =
      s.srvCur := rfl
@[simp] theorem demuxBatch_srvPulse (batch : List Frame) :
    (demuxBatch batch s).srvPulse =
      s.srvPulse := rfl
@[simp] theorem demuxBatch_rxAcc (batch : List Frame) : (demuxBatch batch s).rxAcc = s.rxAcc := rfl
@[simp] theorem demuxBatch_txBusy (batch : List Frame) :
    (demuxBatch batch s).txBusy =
      s.txBusy := rfl
@[simp] theorem demuxBatch_txBuf (batch : List Frame) : (demuxBatch batch s).txBuf = s.txBuf := rfl
@[simp] theorem demuxBatch_linkTx (batch : List Frame) :
    (demuxBatch batch s).linkTx =
      s.linkTx := rfl
@[simp] theorem demuxBatch_txqR (batch : List Frame) : (demuxBatch batch s).txqR = s.txqR := rfl
@[simp] theorem demuxBatch_txqS (batch : List Frame) : (demuxBatch batch s).txqS = s.txqS := rfl
@[simp] theorem demuxBatch_cmdq (batch : List Frame) : (demuxBatch batch s).cmdq = s.cmdq := rfl
@[simp] theorem demuxBatch_pendBatch (batch : List Frame) :
    (demuxBatch batch s).pendBatch =
      s.pendBatch := rfl
@[simp] theorem demuxBatch_pendTxc (batch : List Frame) :
    (demuxBatch batch s).pendTxc =
      s.pendTxc := rfl
@[simp] theorem demuxBatch_pendDoa (batch : List Frame) :
    (demuxBatch batch s).pendDoa =
      s.pendDoa := rfl
@[simp] theorem demuxBatch_pendStick (batch : List Frame) :
    (demuxBatch batch s).pendStick =
      s.pendStick := rfl
@[simp] theorem demuxBatch_linkRxq (batch : List Frame) :
    (demuxBatch batch s).linkRxq =
      s.linkRxq := rfl
@[simp] theorem demuxBatch_diag (batch : List Frame) : (demuxBatch batch s).diag = s.diag := rfl
@[simp] theorem demuxBatch_gGap (batch : List Frame) : (demuxBatch batch s).gGap = s.gGap := rfl
@[simp] theorem demuxBatch_gOverrun (batch : List Frame) :
    (demuxBatch batch s).gOverrun =
      s.gOverrun := rfl
@[simp] theorem demuxBatch_gTxDrop (batch : List Frame) :
    (demuxBatch batch s).gTxDrop =
      s.gTxDrop := rfl
@[simp] theorem demuxBatch_gCmdDrop (batch : List Frame) :
    (demuxBatch batch s).gCmdDrop =
      s.gCmdDrop := rfl
@[simp] theorem demuxBatch_sched (batch : List Frame) : (demuxBatch batch s).sched = s.sched := rfl
@[simp] theorem demuxBatch_l2Draws (batch : List Frame) :
    (demuxBatch batch s).l2Draws =
      s.l2Draws := rfl
@[simp] theorem demuxBatch_ret (batch : List Frame) : (demuxBatch batch s).ret = s.ret := rfl

end Machine

end Sys2Proof
end

