-- ==== Sys2Proof/Laws/Updates.lean ====
section
/-! SUPPORT. What the updates with a case distinction leave alone: one lemma per field. -/

namespace Sys2Proof.Machine

variable (s : State)

/-! ### `startCapture` -/

@[simp] theorem startCapture_cfg : (startCapture s).cfg = s.cfg := by
  unfold startCapture; split <;> rfl
@[simp] theorem startCapture_inReset : (startCapture s).inReset = s.inReset := by
  unfold startCapture; split <;> rfl
@[simp] theorem startCapture_capActive : (startCapture s).capActive = s.capActive := by
  unfold startCapture; split <;> rfl
@[simp] theorem startCapture_capRdyV : (startCapture s).capRdyV = s.capRdyV := by
  unfold startCapture; split <;> rfl
@[simp] theorem startCapture_capOut : (startCapture s).capOut = s.capOut := by
  unfold startCapture; split <;> rfl
@[simp] theorem startCapture_mem : (startCapture s).mem = s.mem := by
  unfold startCapture; split <;> rfl
@[simp] theorem startCapture_dmxSum : (startCapture s).dmxSum = s.dmxSum := by
  unfold startCapture; split <;> rfl
@[simp] theorem startCapture_doaPhase : (startCapture s).doaPhase = s.doaPhase := by
  unfold startCapture; split <;> rfl
@[simp] theorem startCapture_doaSrc : (startCapture s).doaSrc = s.doaSrc := by
  unfold startCapture; split <;> rfl
@[simp] theorem startCapture_doaNewest : (startCapture s).doaNewest = s.doaNewest := by
  unfold startCapture; split <;> rfl
@[simp] theorem startCapture_doaC : (startCapture s).doaC = s.doaC := by
  unfold startCapture; split <;> rfl
@[simp] theorem startCapture_doaI : (startCapture s).doaI = s.doaI := by
  unfold startCapture; split <;> rfl
@[simp] theorem startCapture_doaLag : (startCapture s).doaLag = s.doaLag := by
  unfold startCapture; split <;> rfl
@[simp] theorem startCapture_doaBearing : (startCapture s).doaBearing = s.doaBearing := by
  unfold startCapture; split <;> rfl
@[simp] theorem startCapture_lagTab : (startCapture s).lagTab = s.lagTab := by
  unfold startCapture; split <;> rfl
@[simp] theorem startCapture_srvGoal : (startCapture s).srvGoal = s.srvGoal := by
  unfold startCapture; split <;> rfl
@[simp] theorem startCapture_srvCur : (startCapture s).srvCur = s.srvCur := by
  unfold startCapture; split <;> rfl
@[simp] theorem startCapture_srvPulse : (startCapture s).srvPulse = s.srvPulse := by
  unfold startCapture; split <;> rfl
@[simp] theorem startCapture_rxAcc : (startCapture s).rxAcc = s.rxAcc := by
  unfold startCapture; split <;> rfl
@[simp] theorem startCapture_txBusy : (startCapture s).txBusy = s.txBusy := by
  unfold startCapture; split <;> rfl
@[simp] theorem startCapture_txBuf : (startCapture s).txBuf = s.txBuf := by
  unfold startCapture; split <;> rfl
@[simp] theorem startCapture_linkTx : (startCapture s).linkTx = s.linkTx := by
  unfold startCapture; split <;> rfl
@[simp] theorem startCapture_txqR : (startCapture s).txqR = s.txqR := by
  unfold startCapture; split <;> rfl
@[simp] theorem startCapture_txqS : (startCapture s).txqS = s.txqS := by
  unfold startCapture; split <;> rfl
@[simp] theorem startCapture_cmdq : (startCapture s).cmdq = s.cmdq := by
  unfold startCapture; split <;> rfl
@[simp] theorem startCapture_pendTxc : (startCapture s).pendTxc = s.pendTxc := by
  unfold startCapture; split <;> rfl
@[simp] theorem startCapture_pendDoa : (startCapture s).pendDoa = s.pendDoa := by
  unfold startCapture; split <;> rfl
@[simp] theorem startCapture_pendStick : (startCapture s).pendStick = s.pendStick := by
  unfold startCapture; split <;> rfl
@[simp] theorem startCapture_linkRxq : (startCapture s).linkRxq = s.linkRxq := by
  unfold startCapture; split <;> rfl
@[simp] theorem startCapture_diag : (startCapture s).diag = s.diag := by
  unfold startCapture; split <;> rfl
@[simp] theorem startCapture_gGap : (startCapture s).gGap = s.gGap := by
  unfold startCapture; split <;> rfl
@[simp] theorem startCapture_gOverrun : (startCapture s).gOverrun = s.gOverrun := by
  unfold startCapture; split <;> rfl
@[simp] theorem startCapture_gTxDrop : (startCapture s).gTxDrop = s.gTxDrop := by
  unfold startCapture; split <;> rfl
@[simp] theorem startCapture_gCmdDrop : (startCapture s).gCmdDrop = s.gCmdDrop := by
  unfold startCapture; split <;> rfl
@[simp] theorem startCapture_sched : (startCapture s).sched = s.sched := by
  unfold startCapture; split <;> rfl
@[simp] theorem startCapture_l2Draws : (startCapture s).l2Draws = s.l2Draws := by
  unfold startCapture; split <;> rfl
@[simp] theorem startCapture_ret : (startCapture s).ret = s.ret := by
  unfold startCapture; split <;> rfl

/-! ### `captureFrame` -/

@[simp] theorem captureFrame_cfg (f : Frame) : (captureFrame f s).cfg = s.cfg := by
  unfold captureFrame; split <;> rfl
@[simp] theorem captureFrame_inReset (f : Frame) : (captureFrame f s).inReset = s.inReset := by
  unfold captureFrame; split <;> rfl
@[simp] theorem captureFrame_capEn (f : Frame) : (captureFrame f s).capEn = s.capEn := by
  unfold captureFrame; split <;> rfl
@[simp] theorem captureFrame_capPaused (f : Frame) : (captureFrame f s).capPaused = s.capPaused := by
  unfold captureFrame; split <;> rfl
@[simp] theorem captureFrame_capActive (f : Frame) : (captureFrame f s).capActive = s.capActive := by
  unfold captureFrame; split <;> rfl
@[simp] theorem captureFrame_capRdyV (f : Frame) : (captureFrame f s).capRdyV = s.capRdyV := by
  unfold captureFrame; split <;> rfl
@[simp] theorem captureFrame_capOut (f : Frame) : (captureFrame f s).capOut = s.capOut := by
  unfold captureFrame; split <;> rfl
@[simp] theorem captureFrame_dmxSum (f : Frame) : (captureFrame f s).dmxSum = s.dmxSum := by
  unfold captureFrame; split <;> rfl
@[simp] theorem captureFrame_doaPhase (f : Frame) : (captureFrame f s).doaPhase = s.doaPhase := by
  unfold captureFrame; split <;> rfl
@[simp] theorem captureFrame_doaSrc (f : Frame) : (captureFrame f s).doaSrc = s.doaSrc := by
  unfold captureFrame; split <;> rfl
@[simp] theorem captureFrame_doaNewest (f : Frame) : (captureFrame f s).doaNewest = s.doaNewest := by
  unfold captureFrame; split <;> rfl
@[simp] theorem captureFrame_doaC (f : Frame) : (captureFrame f s).doaC = s.doaC := by
  unfold captureFrame; split <;> rfl
@[simp] theorem captureFrame_doaI (f : Frame) : (captureFrame f s).doaI = s.doaI := by
  unfold captureFrame; split <;> rfl
@[simp] theorem captureFrame_doaLag (f : Frame) : (captureFrame f s).doaLag = s.doaLag := by
  unfold captureFrame; split <;> rfl
@[simp] theorem captureFrame_doaBearing (f : Frame) : (captureFrame f s).doaBearing = s.doaBearing := by
  unfold captureFrame; split <;> rfl
@[simp] theorem captureFrame_lagTab (f : Frame) : (captureFrame f s).lagTab = s.lagTab := by
  unfold captureFrame; split <;> rfl
@[simp] theorem captureFrame_srvGoal (f : Frame) : (captureFrame f s).srvGoal = s.srvGoal := by
  unfold captureFrame; split <;> rfl
@[simp] theorem captureFrame_srvCur (f : Frame) : (captureFrame f s).srvCur = s.srvCur := by
  unfold captureFrame; split <;> rfl
@[simp] theorem captureFrame_srvPulse (f : Frame) : (captureFrame f s).srvPulse = s.srvPulse := by
  unfold captureFrame; split <;> rfl
@[simp] theorem captureFrame_rxAcc (f : Frame) : (captureFrame f s).rxAcc = s.rxAcc := by
  unfold captureFrame; split <;> rfl
@[simp] theorem captureFrame_txBusy (f : Frame) : (captureFrame f s).txBusy = s.txBusy := by
  unfold captureFrame; split <;> rfl
@[simp] theorem captureFrame_txBuf (f : Frame) : (captureFrame f s).txBuf = s.txBuf := by
  unfold captureFrame; split <;> rfl
@[simp] theorem captureFrame_linkTx (f : Frame) : (captureFrame f s).linkTx = s.linkTx := by
  unfold captureFrame; split <;> rfl
@[simp] theorem captureFrame_txqR (f : Frame) : (captureFrame f s).txqR = s.txqR := by
  unfold captureFrame; split <;> rfl
@[simp] theorem captureFrame_txqS (f : Frame) : (captureFrame f s).txqS = s.txqS := by
  unfold captureFrame; split <;> rfl
@[simp] theorem captureFrame_cmdq (f : Frame) : (captureFrame f s).cmdq = s.cmdq := by
  unfold captureFrame; split <;> rfl
@[simp] theorem captureFrame_pendTxc (f : Frame) : (captureFrame f s).pendTxc = s.pendTxc := by
  unfold captureFrame; split <;> rfl
@[simp] theorem captureFrame_pendDoa (f : Frame) : (captureFrame f s).pendDoa = s.pendDoa := by
  unfold captureFrame; split <;> rfl
@[simp] theorem captureFrame_pendStick (f : Frame) : (captureFrame f s).pendStick = s.pendStick := by
  unfold captureFrame; split <;> rfl
@[simp] theorem captureFrame_linkRxq (f : Frame) : (captureFrame f s).linkRxq = s.linkRxq := by
  unfold captureFrame; split <;> rfl
@[simp] theorem captureFrame_diag (f : Frame) : (captureFrame f s).diag = s.diag := by
  unfold captureFrame; split <;> rfl
@[simp] theorem captureFrame_gOverrun (f : Frame) : (captureFrame f s).gOverrun = s.gOverrun := by
  unfold captureFrame; split <;> rfl
@[simp] theorem captureFrame_gTxDrop (f : Frame) : (captureFrame f s).gTxDrop = s.gTxDrop := by
  unfold captureFrame; split <;> rfl
@[simp] theorem captureFrame_gCmdDrop (f : Frame) : (captureFrame f s).gCmdDrop = s.gCmdDrop := by
  unfold captureFrame; split <;> rfl
@[simp] theorem captureFrame_sched (f : Frame) : (captureFrame f s).sched = s.sched := by
  unfold captureFrame; split <;> rfl
@[simp] theorem captureFrame_l2Draws (f : Frame) : (captureFrame f s).l2Draws = s.l2Draws := by
  unfold captureFrame; split <;> rfl
@[simp] theorem captureFrame_ret (f : Frame) : (captureFrame f s).ret = s.ret := by
  unfold captureFrame; split <;> rfl

/-! ### `newestBatch` -/

@[simp] theorem newestBatch_cfg : ((newestBatch s).2).cfg = s.cfg := by
  unfold newestBatch; split <;> rfl
@[simp] theorem newestBatch_inReset : ((newestBatch s).2).inReset = s.inReset := by
  unfold newestBatch; split <;> rfl
@[simp] theorem newestBatch_capEn : ((newestBatch s).2).capEn = s.capEn := by
  unfold newestBatch; split <;> rfl
@[simp] theorem newestBatch_capPaused : ((newestBatch s).2).capPaused = s.capPaused := by
  unfold newestBatch; split <;> rfl
@[simp] theorem newestBatch_mem : ((newestBatch s).2).mem = s.mem := by
  unfold newestBatch; split <;> rfl
@[simp] theorem newestBatch_dmxSum : ((newestBatch s).2).dmxSum = s.dmxSum := by
  unfold newestBatch; split <;> rfl
@[simp] theorem newestBatch_doaPhase : ((newestBatch s).2).doaPhase = s.doaPhase := by
  unfold newestBatch; split <;> rfl
@[simp] theorem newestBatch_doaSrc : ((newestBatch s).2).doaSrc = s.doaSrc := by
  unfold newestBatch; split <;> rfl
@[simp] theorem newestBatch_doaNewest : ((newestBatch s).2).doaNewest = s.doaNewest := by
  unfold newestBatch; split <;> rfl
@[simp] theorem newestBatch_doaC : ((newestBatch s).2).doaC = s.doaC := by
  unfold newestBatch; split <;> rfl
@[simp] theorem newestBatch_doaI : ((newestBatch s).2).doaI = s.doaI := by
  unfold newestBatch; split <;> rfl
@[simp] theorem newestBatch_doaLag : ((newestBatch s).2).doaLag = s.doaLag := by
  unfold newestBatch; split <;> rfl
@[simp] theorem newestBatch_doaBearing : ((newestBatch s).2).doaBearing = s.doaBearing := by
  unfold newestBatch; split <;> rfl
@[simp] theorem newestBatch_lagTab : ((newestBatch s).2).lagTab = s.lagTab := by
  unfold newestBatch; split <;> rfl
@[simp] theorem newestBatch_srvGoal : ((newestBatch s).2).srvGoal = s.srvGoal := by
  unfold newestBatch; split <;> rfl
@[simp] theorem newestBatch_srvCur : ((newestBatch s).2).srvCur = s.srvCur := by
  unfold newestBatch; split <;> rfl
@[simp] theorem newestBatch_srvPulse : ((newestBatch s).2).srvPulse = s.srvPulse := by
  unfold newestBatch; split <;> rfl
@[simp] theorem newestBatch_rxAcc : ((newestBatch s).2).rxAcc = s.rxAcc := by
  unfold newestBatch; split <;> rfl
@[simp] theorem newestBatch_txBusy : ((newestBatch s).2).txBusy = s.txBusy := by
  unfold newestBatch; split <;> rfl
@[simp] theorem newestBatch_txBuf : ((newestBatch s).2).txBuf = s.txBuf := by
  unfold newestBatch; split <;> rfl
@[simp] theorem newestBatch_linkTx : ((newestBatch s).2).linkTx = s.linkTx := by
  unfold newestBatch; split <;> rfl
@[simp] theorem newestBatch_txqR : ((newestBatch s).2).txqR = s.txqR := by
  unfold newestBatch; split <;> rfl
@[simp] theorem newestBatch_txqS : ((newestBatch s).2).txqS = s.txqS := by
  unfold newestBatch; split <;> rfl
@[simp] theorem newestBatch_cmdq : ((newestBatch s).2).cmdq = s.cmdq := by
  unfold newestBatch; split <;> rfl
@[simp] theorem newestBatch_pendBatch : ((newestBatch s).2).pendBatch = s.pendBatch := by
  unfold newestBatch; split <;> rfl
@[simp] theorem newestBatch_pendTxc : ((newestBatch s).2).pendTxc = s.pendTxc := by
  unfold newestBatch; split <;> rfl
@[simp] theorem newestBatch_pendDoa : ((newestBatch s).2).pendDoa = s.pendDoa := by
  unfold newestBatch; split <;> rfl
@[simp] theorem newestBatch_pendStick : ((newestBatch s).2).pendStick = s.pendStick := by
  unfold newestBatch; split <;> rfl
@[simp] theorem newestBatch_linkRxq : ((newestBatch s).2).linkRxq = s.linkRxq := by
  unfold newestBatch; split <;> rfl
@[simp] theorem newestBatch_diag : ((newestBatch s).2).diag = s.diag := by
  unfold newestBatch; split <;> rfl
@[simp] theorem newestBatch_gGap : ((newestBatch s).2).gGap = s.gGap := by
  unfold newestBatch; split <;> rfl
@[simp] theorem newestBatch_gTxDrop : ((newestBatch s).2).gTxDrop = s.gTxDrop := by
  unfold newestBatch; split <;> rfl
@[simp] theorem newestBatch_gCmdDrop : ((newestBatch s).2).gCmdDrop = s.gCmdDrop := by
  unfold newestBatch; split <;> rfl
@[simp] theorem newestBatch_sched : ((newestBatch s).2).sched = s.sched := by
  unfold newestBatch; split <;> rfl
@[simp] theorem newestBatch_l2Draws : ((newestBatch s).2).l2Draws = s.l2Draws := by
  unfold newestBatch; split <;> rfl
@[simp] theorem newestBatch_ret : ((newestBatch s).2).ret = s.ret := by
  unfold newestBatch; split <;> rfl

/-! ### `enqueueMessage` -/

@[simp] theorem enqueueMessage_cfg (m : Message) : (enqueueMessage m s).cfg = s.cfg := by
  unfold enqueueMessage; split <;> split <;> rfl
@[simp] theorem enqueueMessage_inReset (m : Message) : (enqueueMessage m s).inReset = s.inReset := by
  unfold enqueueMessage; split <;> split <;> rfl
@[simp] theorem enqueueMessage_capEn (m : Message) : (enqueueMessage m s).capEn = s.capEn := by
  unfold enqueueMessage; split <;> split <;> rfl
@[simp] theorem enqueueMessage_capPaused (m : Message) : (enqueueMessage m s).capPaused = s.capPaused := by
  unfold enqueueMessage; split <;> split <;> rfl
@[simp] theorem enqueueMessage_capActive (m : Message) : (enqueueMessage m s).capActive = s.capActive := by
  unfold enqueueMessage; split <;> split <;> rfl
@[simp] theorem enqueueMessage_capWr (m : Message) : (enqueueMessage m s).capWr = s.capWr := by
  unfold enqueueMessage; split <;> split <;> rfl
@[simp] theorem enqueueMessage_capRdyV (m : Message) : (enqueueMessage m s).capRdyV = s.capRdyV := by
  unfold enqueueMessage; split <;> split <;> rfl
@[simp] theorem enqueueMessage_capOut (m : Message) : (enqueueMessage m s).capOut = s.capOut := by
  unfold enqueueMessage; split <;> split <;> rfl
@[simp] theorem enqueueMessage_mem (m : Message) : (enqueueMessage m s).mem = s.mem := by
  unfold enqueueMessage; split <;> split <;> rfl
@[simp] theorem enqueueMessage_dmxSum (m : Message) : (enqueueMessage m s).dmxSum = s.dmxSum := by
  unfold enqueueMessage; split <;> split <;> rfl
@[simp] theorem enqueueMessage_doaPhase (m : Message) : (enqueueMessage m s).doaPhase = s.doaPhase := by
  unfold enqueueMessage; split <;> split <;> rfl
@[simp] theorem enqueueMessage_doaSrc (m : Message) : (enqueueMessage m s).doaSrc = s.doaSrc := by
  unfold enqueueMessage; split <;> split <;> rfl
@[simp] theorem enqueueMessage_doaNewest (m : Message) : (enqueueMessage m s).doaNewest = s.doaNewest := by
  unfold enqueueMessage; split <;> split <;> rfl
@[simp] theorem enqueueMessage_doaC (m : Message) : (enqueueMessage m s).doaC = s.doaC := by
  unfold enqueueMessage; split <;> split <;> rfl
@[simp] theorem enqueueMessage_doaI (m : Message) : (enqueueMessage m s).doaI = s.doaI := by
  unfold enqueueMessage; split <;> split <;> rfl
@[simp] theorem enqueueMessage_doaLag (m : Message) : (enqueueMessage m s).doaLag = s.doaLag := by
  unfold enqueueMessage; split <;> split <;> rfl
@[simp] theorem enqueueMessage_doaBearing (m : Message) : (enqueueMessage m s).doaBearing = s.doaBearing := by
  unfold enqueueMessage; split <;> split <;> rfl
@[simp] theorem enqueueMessage_lagTab (m : Message) : (enqueueMessage m s).lagTab = s.lagTab := by
  unfold enqueueMessage; split <;> split <;> rfl
@[simp] theorem enqueueMessage_srvGoal (m : Message) : (enqueueMessage m s).srvGoal = s.srvGoal := by
  unfold enqueueMessage; split <;> split <;> rfl
@[simp] theorem enqueueMessage_srvCur (m : Message) : (enqueueMessage m s).srvCur = s.srvCur := by
  unfold enqueueMessage; split <;> split <;> rfl
@[simp] theorem enqueueMessage_srvPulse (m : Message) : (enqueueMessage m s).srvPulse = s.srvPulse := by
  unfold enqueueMessage; split <;> split <;> rfl
@[simp] theorem enqueueMessage_rxAcc (m : Message) : (enqueueMessage m s).rxAcc = s.rxAcc := by
  unfold enqueueMessage; split <;> split <;> rfl
@[simp] theorem enqueueMessage_txBusy (m : Message) : (enqueueMessage m s).txBusy = s.txBusy := by
  unfold enqueueMessage; split <;> split <;> rfl
@[simp] theorem enqueueMessage_txBuf (m : Message) : (enqueueMessage m s).txBuf = s.txBuf := by
  unfold enqueueMessage; split <;> split <;> rfl
@[simp] theorem enqueueMessage_linkTx (m : Message) : (enqueueMessage m s).linkTx = s.linkTx := by
  unfold enqueueMessage; split <;> split <;> rfl
@[simp] theorem enqueueMessage_cmdq (m : Message) : (enqueueMessage m s).cmdq = s.cmdq := by
  unfold enqueueMessage; split <;> split <;> rfl
@[simp] theorem enqueueMessage_pendBatch (m : Message) : (enqueueMessage m s).pendBatch = s.pendBatch := by
  unfold enqueueMessage; split <;> split <;> rfl
@[simp] theorem enqueueMessage_pendTxc (m : Message) : (enqueueMessage m s).pendTxc = s.pendTxc := by
  unfold enqueueMessage; split <;> split <;> rfl
@[simp] theorem enqueueMessage_pendDoa (m : Message) : (enqueueMessage m s).pendDoa = s.pendDoa := by
  unfold enqueueMessage; split <;> split <;> rfl
@[simp] theorem enqueueMessage_pendStick (m : Message) : (enqueueMessage m s).pendStick = s.pendStick := by
  unfold enqueueMessage; split <;> split <;> rfl
@[simp] theorem enqueueMessage_linkRxq (m : Message) : (enqueueMessage m s).linkRxq = s.linkRxq := by
  unfold enqueueMessage; split <;> split <;> rfl
@[simp] theorem enqueueMessage_diag (m : Message) : (enqueueMessage m s).diag = s.diag := by
  unfold enqueueMessage; split <;> split <;> rfl
@[simp] theorem enqueueMessage_gGap (m : Message) : (enqueueMessage m s).gGap = s.gGap := by
  unfold enqueueMessage; split <;> split <;> rfl
@[simp] theorem enqueueMessage_gOverrun (m : Message) : (enqueueMessage m s).gOverrun = s.gOverrun := by
  unfold enqueueMessage; split <;> split <;> rfl
@[simp] theorem enqueueMessage_gCmdDrop (m : Message) : (enqueueMessage m s).gCmdDrop = s.gCmdDrop := by
  unfold enqueueMessage; split <;> split <;> rfl
@[simp] theorem enqueueMessage_sched (m : Message) : (enqueueMessage m s).sched = s.sched := by
  unfold enqueueMessage; split <;> split <;> rfl
@[simp] theorem enqueueMessage_l2Draws (m : Message) : (enqueueMessage m s).l2Draws = s.l2Draws := by
  unfold enqueueMessage; split <;> split <;> rfl
@[simp] theorem enqueueMessage_ret (m : Message) : (enqueueMessage m s).ret = s.ret := by
  unfold enqueueMessage; split <;> split <;> rfl

/-! ### `deliverMessage` -/

@[simp] theorem deliverMessage_cfg (m : Message) : (deliverMessage m s).cfg = s.cfg := by
  cases m <;> first | rfl | (simp only [deliverMessage]; split <;> rfl)
@[simp] theorem deliverMessage_inReset (m : Message) : (deliverMessage m s).inReset = s.inReset := by
  cases m <;> first | rfl | (simp only [deliverMessage]; split <;> rfl)
@[simp] theorem deliverMessage_capEn (m : Message) : (deliverMessage m s).capEn = s.capEn := by
  cases m <;> first | rfl | (simp only [deliverMessage]; split <;> rfl)
@[simp] theorem deliverMessage_capPaused (m : Message) : (deliverMessage m s).capPaused = s.capPaused := by
  cases m <;> first | rfl | (simp only [deliverMessage]; split <;> rfl)
@[simp] theorem deliverMessage_capActive (m : Message) : (deliverMessage m s).capActive = s.capActive := by
  cases m <;> first | rfl | (simp only [deliverMessage]; split <;> rfl)
@[simp] theorem deliverMessage_capWr (m : Message) : (deliverMessage m s).capWr = s.capWr := by
  cases m <;> first | rfl | (simp only [deliverMessage]; split <;> rfl)
@[simp] theorem deliverMessage_capRdyV (m : Message) : (deliverMessage m s).capRdyV = s.capRdyV := by
  cases m <;> first | rfl | (simp only [deliverMessage]; split <;> rfl)
@[simp] theorem deliverMessage_capOut (m : Message) : (deliverMessage m s).capOut = s.capOut := by
  cases m <;> first | rfl | (simp only [deliverMessage]; split <;> rfl)
@[simp] theorem deliverMessage_mem (m : Message) : (deliverMessage m s).mem = s.mem := by
  cases m <;> first | rfl | (simp only [deliverMessage]; split <;> rfl)
@[simp] theorem deliverMessage_dmxSum (m : Message) : (deliverMessage m s).dmxSum = s.dmxSum := by
  cases m <;> first | rfl | (simp only [deliverMessage]; split <;> rfl)
@[simp] theorem deliverMessage_doaPhase (m : Message) : (deliverMessage m s).doaPhase = s.doaPhase := by
  cases m <;> first | rfl | (simp only [deliverMessage]; split <;> rfl)
@[simp] theorem deliverMessage_doaSrc (m : Message) : (deliverMessage m s).doaSrc = s.doaSrc := by
  cases m <;> first | rfl | (simp only [deliverMessage]; split <;> rfl)
@[simp] theorem deliverMessage_doaNewest (m : Message) : (deliverMessage m s).doaNewest = s.doaNewest := by
  cases m <;> first | rfl | (simp only [deliverMessage]; split <;> rfl)
@[simp] theorem deliverMessage_doaC (m : Message) : (deliverMessage m s).doaC = s.doaC := by
  cases m <;> first | rfl | (simp only [deliverMessage]; split <;> rfl)
@[simp] theorem deliverMessage_doaI (m : Message) : (deliverMessage m s).doaI = s.doaI := by
  cases m <;> first | rfl | (simp only [deliverMessage]; split <;> rfl)
@[simp] theorem deliverMessage_doaLag (m : Message) : (deliverMessage m s).doaLag = s.doaLag := by
  cases m <;> first | rfl | (simp only [deliverMessage]; split <;> rfl)
@[simp] theorem deliverMessage_doaBearing (m : Message) : (deliverMessage m s).doaBearing = s.doaBearing := by
  cases m <;> first | rfl | (simp only [deliverMessage]; split <;> rfl)
@[simp] theorem deliverMessage_lagTab (m : Message) : (deliverMessage m s).lagTab = s.lagTab := by
  cases m <;> first | rfl | (simp only [deliverMessage]; split <;> rfl)
@[simp] theorem deliverMessage_srvGoal (m : Message) : (deliverMessage m s).srvGoal = s.srvGoal := by
  cases m <;> first | rfl | (simp only [deliverMessage]; split <;> rfl)
@[simp] theorem deliverMessage_srvCur (m : Message) : (deliverMessage m s).srvCur = s.srvCur := by
  cases m <;> first | rfl | (simp only [deliverMessage]; split <;> rfl)
@[simp] theorem deliverMessage_srvPulse (m : Message) : (deliverMessage m s).srvPulse = s.srvPulse := by
  cases m <;> first | rfl | (simp only [deliverMessage]; split <;> rfl)
@[simp] theorem deliverMessage_rxAcc (m : Message) : (deliverMessage m s).rxAcc = s.rxAcc := by
  cases m <;> first | rfl | (simp only [deliverMessage]; split <;> rfl)
@[simp] theorem deliverMessage_txBusy (m : Message) : (deliverMessage m s).txBusy = s.txBusy := by
  cases m <;> first | rfl | (simp only [deliverMessage]; split <;> rfl)
@[simp] theorem deliverMessage_txBuf (m : Message) : (deliverMessage m s).txBuf = s.txBuf := by
  cases m <;> first | rfl | (simp only [deliverMessage]; split <;> rfl)
@[simp] theorem deliverMessage_linkTx (m : Message) : (deliverMessage m s).linkTx = s.linkTx := by
  cases m <;> first | rfl | (simp only [deliverMessage]; split <;> rfl)
@[simp] theorem deliverMessage_txqR (m : Message) : (deliverMessage m s).txqR = s.txqR := by
  cases m <;> first | rfl | (simp only [deliverMessage]; split <;> rfl)
@[simp] theorem deliverMessage_txqS (m : Message) : (deliverMessage m s).txqS = s.txqS := by
  cases m <;> first | rfl | (simp only [deliverMessage]; split <;> rfl)
@[simp] theorem deliverMessage_pendBatch (m : Message) : (deliverMessage m s).pendBatch = s.pendBatch := by
  cases m <;> first | rfl | (simp only [deliverMessage]; split <;> rfl)
@[simp] theorem deliverMessage_pendTxc (m : Message) : (deliverMessage m s).pendTxc = s.pendTxc := by
  cases m <;> first | rfl | (simp only [deliverMessage]; split <;> rfl)
@[simp] theorem deliverMessage_pendDoa (m : Message) : (deliverMessage m s).pendDoa = s.pendDoa := by
  cases m <;> first | rfl | (simp only [deliverMessage]; split <;> rfl)
@[simp] theorem deliverMessage_pendStick (m : Message) : (deliverMessage m s).pendStick = s.pendStick := by
  cases m <;> first | rfl | (simp only [deliverMessage]; split <;> rfl)
@[simp] theorem deliverMessage_linkRxq (m : Message) : (deliverMessage m s).linkRxq = s.linkRxq := by
  cases m <;> first | rfl | (simp only [deliverMessage]; split <;> rfl)
@[simp] theorem deliverMessage_gGap (m : Message) : (deliverMessage m s).gGap = s.gGap := by
  cases m <;> first | rfl | (simp only [deliverMessage]; split <;> rfl)
@[simp] theorem deliverMessage_gOverrun (m : Message) : (deliverMessage m s).gOverrun = s.gOverrun := by
  cases m <;> first | rfl | (simp only [deliverMessage]; split <;> rfl)
@[simp] theorem deliverMessage_gTxDrop (m : Message) : (deliverMessage m s).gTxDrop = s.gTxDrop := by
  cases m <;> first | rfl | (simp only [deliverMessage]; split <;> rfl)
@[simp] theorem deliverMessage_sched (m : Message) : (deliverMessage m s).sched = s.sched := by
  cases m <;> first | rfl | (simp only [deliverMessage]; split <;> rfl)
@[simp] theorem deliverMessage_l2Draws (m : Message) : (deliverMessage m s).l2Draws = s.l2Draws := by
  cases m <;> first | rfl | (simp only [deliverMessage]; split <;> rfl)
@[simp] theorem deliverMessage_ret (m : Message) : (deliverMessage m s).ret = s.ret := by
  cases m <;> first | rfl | (simp only [deliverMessage]; split <;> rfl)

/-! ### `handleResult` -/

@[simp] theorem handleResult_cfg (r : FeedResult) : (handleResult r s).cfg = s.cfg := by
  cases r <;> first | rfl | exact deliverMessage_cfg _ _
@[simp] theorem handleResult_inReset (r : FeedResult) : (handleResult r s).inReset = s.inReset := by
  cases r <;> first | rfl | exact deliverMessage_inReset _ _
@[simp] theorem handleResult_capEn (r : FeedResult) : (handleResult r s).capEn = s.capEn := by
  cases r <;> first | rfl | exact deliverMessage_capEn _ _
@[simp] theorem handleResult_capPaused (r : FeedResult) : (handleResult r s).capPaused = s.capPaused := by
  cases r <;> first | rfl | exact deliverMessage_capPaused _ _
@[simp] theorem handleResult_capActive (r : FeedResult) : (handleResult r s).capActive = s.capActive := by
  cases r <;> first | rfl | exact deliverMessage_capActive _ _
@[simp] theorem handleResult_capWr (r : FeedResult) : (handleResult r s).capWr = s.capWr := by
  cases r <;> first | rfl | exact deliverMessage_capWr _ _
@[simp] theorem handleResult_capRdyV (r : FeedResult) : (handleResult r s).capRdyV = s.capRdyV := by
  cases r <;> first | rfl | exact deliverMessage_capRdyV _ _
@[simp] theorem handleResult_capOut (r : FeedResult) : (handleResult r s).capOut = s.capOut := by
  cases r <;> first | rfl | exact deliverMessage_capOut _ _
@[simp] theorem handleResult_mem (r : FeedResult) : (handleResult r s).mem = s.mem := by
  cases r <;> first | rfl | exact deliverMessage_mem _ _
@[simp] theorem handleResult_dmxSum (r : FeedResult) : (handleResult r s).dmxSum = s.dmxSum := by
  cases r <;> first | rfl | exact deliverMessage_dmxSum _ _
@[simp] theorem handleResult_doaPhase (r : FeedResult) : (handleResult r s).doaPhase = s.doaPhase := by
  cases r <;> first | rfl | exact deliverMessage_doaPhase _ _
@[simp] theorem handleResult_doaSrc (r : FeedResult) : (handleResult r s).doaSrc = s.doaSrc := by
  cases r <;> first | rfl | exact deliverMessage_doaSrc _ _
@[simp] theorem handleResult_doaNewest (r : FeedResult) : (handleResult r s).doaNewest = s.doaNewest := by
  cases r <;> first | rfl | exact deliverMessage_doaNewest _ _
@[simp] theorem handleResult_doaC (r : FeedResult) : (handleResult r s).doaC = s.doaC := by
  cases r <;> first | rfl | exact deliverMessage_doaC _ _
@[simp] theorem handleResult_doaI (r : FeedResult) : (handleResult r s).doaI = s.doaI := by
  cases r <;> first | rfl | exact deliverMessage_doaI _ _
@[simp] theorem handleResult_doaLag (r : FeedResult) : (handleResult r s).doaLag = s.doaLag := by
  cases r <;> first | rfl | exact deliverMessage_doaLag _ _
@[simp] theorem handleResult_doaBearing (r : FeedResult) : (handleResult r s).doaBearing = s.doaBearing := by
  cases r <;> first | rfl | exact deliverMessage_doaBearing _ _
@[simp] theorem handleResult_lagTab (r : FeedResult) : (handleResult r s).lagTab = s.lagTab := by
  cases r <;> first | rfl | exact deliverMessage_lagTab _ _
@[simp] theorem handleResult_srvGoal (r : FeedResult) : (handleResult r s).srvGoal = s.srvGoal := by
  cases r <;> first | rfl | exact deliverMessage_srvGoal _ _
@[simp] theorem handleResult_srvCur (r : FeedResult) : (handleResult r s).srvCur = s.srvCur := by
  cases r <;> first | rfl | exact deliverMessage_srvCur _ _
@[simp] theorem handleResult_srvPulse (r : FeedResult) : (handleResult r s).srvPulse = s.srvPulse := by
  cases r <;> first | rfl | exact deliverMessage_srvPulse _ _
@[simp] theorem handleResult_rxAcc (r : FeedResult) : (handleResult r s).rxAcc = s.rxAcc := by
  cases r <;> first | rfl | exact deliverMessage_rxAcc _ _
@[simp] theorem handleResult_txBusy (r : FeedResult) : (handleResult r s).txBusy = s.txBusy := by
  cases r <;> first | rfl | exact deliverMessage_txBusy _ _
@[simp] theorem handleResult_txBuf (r : FeedResult) : (handleResult r s).txBuf = s.txBuf := by
  cases r <;> first | rfl | exact deliverMessage_txBuf _ _
@[simp] theorem handleResult_linkTx (r : FeedResult) : (handleResult r s).linkTx = s.linkTx := by
  cases r <;> first | rfl | exact deliverMessage_linkTx _ _
@[simp] theorem handleResult_txqR (r : FeedResult) : (handleResult r s).txqR = s.txqR := by
  cases r <;> first | rfl | exact deliverMessage_txqR _ _
@[simp] theorem handleResult_txqS (r : FeedResult) : (handleResult r s).txqS = s.txqS := by
  cases r <;> first | rfl | exact deliverMessage_txqS _ _
@[simp] theorem handleResult_pendBatch (r : FeedResult) : (handleResult r s).pendBatch = s.pendBatch := by
  cases r <;> first | rfl | exact deliverMessage_pendBatch _ _
@[simp] theorem handleResult_pendTxc (r : FeedResult) : (handleResult r s).pendTxc = s.pendTxc := by
  cases r <;> first | rfl | exact deliverMessage_pendTxc _ _
@[simp] theorem handleResult_pendDoa (r : FeedResult) : (handleResult r s).pendDoa = s.pendDoa := by
  cases r <;> first | rfl | exact deliverMessage_pendDoa _ _
@[simp] theorem handleResult_pendStick (r : FeedResult) : (handleResult r s).pendStick = s.pendStick := by
  cases r <;> first | rfl | exact deliverMessage_pendStick _ _
@[simp] theorem handleResult_linkRxq (r : FeedResult) : (handleResult r s).linkRxq = s.linkRxq := by
  cases r <;> first | rfl | exact deliverMessage_linkRxq _ _
@[simp] theorem handleResult_gGap (r : FeedResult) : (handleResult r s).gGap = s.gGap := by
  cases r <;> first | rfl | exact deliverMessage_gGap _ _
@[simp] theorem handleResult_gOverrun (r : FeedResult) : (handleResult r s).gOverrun = s.gOverrun := by
  cases r <;> first | rfl | exact deliverMessage_gOverrun _ _
@[simp] theorem handleResult_gTxDrop (r : FeedResult) : (handleResult r s).gTxDrop = s.gTxDrop := by
  cases r <;> first | rfl | exact deliverMessage_gTxDrop _ _
@[simp] theorem handleResult_sched (r : FeedResult) : (handleResult r s).sched = s.sched := by
  cases r <;> first | rfl | exact deliverMessage_sched _ _
@[simp] theorem handleResult_l2Draws (r : FeedResult) : (handleResult r s).l2Draws = s.l2Draws := by
  cases r <;> first | rfl | exact deliverMessage_l2Draws _ _
@[simp] theorem handleResult_ret (r : FeedResult) : (handleResult r s).ret = s.ret := by
  cases r <;> first | rfl | exact deliverMessage_ret _ _

/-! ### `feedChunk` -/

/-- A property of states that handling any result keeps is kept by a whole chunk. -/
theorem feedChunk_induct (P : State → Prop) (chunk : List Byte)
    (h0 : P { s with rxAcc := (feedAll s.cfg s.rxAcc chunk).2 })
    (hs : ∀ r t, P t → P (handleResult r t)) : P (feedChunk chunk s) := by
  unfold feedChunk
  simp only
  generalize (feedAll s.cfg s.rxAcc chunk).1 = rs
  revert h0
  generalize ({ s with rxAcc := (feedAll s.cfg s.rxAcc chunk).2 } : State) = t
  induction rs generalizing t with
  | nil => exact id
  | cons r rs ih => exact fun h => ih (handleResult r t) (hs r t h)

@[simp] theorem feedChunk_cfg (chunk : List Byte) : (feedChunk chunk s).cfg = s.cfg :=
  feedChunk_induct s (fun t => t.cfg = s.cfg) chunk rfl
    (fun r t h => (handleResult_cfg t r).trans h)
@[simp] theorem feedChunk_inReset (chunk : List Byte) : (feedChunk chunk s).inReset = s.inReset :=
  feedChunk_induct s (fun t => t.inReset = s.inReset) chunk rfl
    (fun r t h => (handleResult_inReset t r).trans h)
@[simp] theorem feedChunk_capEn (chunk : List Byte) : (feedChunk chunk s).capEn = s.capEn :=
  feedChunk_induct s (fun t => t.capEn = s.capEn) chunk rfl
    (fun r t h => (handleResult_capEn t r).trans h)
@[simp] theorem feedChunk_capPaused (chunk : List Byte) : (feedChunk chunk s).capPaused = s.capPaused :=
  feedChunk_induct s (fun t => t.capPaused = s.capPaused) chunk rfl
    (fun r t h => (handleResult_capPaused t r).trans h)
@[simp] theorem feedChunk_capActive (chunk : List Byte) : (feedChunk chunk s).capActive = s.capActive :=
  feedChunk_induct s (fun t => t.capActive = s.capActive) chunk rfl
    (fun r t h => (handleResult_capActive t r).trans h)
@[simp] theorem feedChunk_capWr (chunk : List Byte) : (feedChunk chunk s).capWr = s.capWr :=
  feedChunk_induct s (fun t => t.capWr = s.capWr) chunk rfl
    (fun r t h => (handleResult_capWr t r).trans h)
@[simp] theorem feedChunk_capRdyV (chunk : List Byte) : (feedChunk chunk s).capRdyV = s.capRdyV :=
  feedChunk_induct s (fun t => t.capRdyV = s.capRdyV) chunk rfl
    (fun r t h => (handleResult_capRdyV t r).trans h)
@[simp] theorem feedChunk_capOut (chunk : List Byte) : (feedChunk chunk s).capOut = s.capOut :=
  feedChunk_induct s (fun t => t.capOut = s.capOut) chunk rfl
    (fun r t h => (handleResult_capOut t r).trans h)
@[simp] theorem feedChunk_mem (chunk : List Byte) : (feedChunk chunk s).mem = s.mem :=
  feedChunk_induct s (fun t => t.mem = s.mem) chunk rfl
    (fun r t h => (handleResult_mem t r).trans h)
@[simp] theorem feedChunk_dmxSum (chunk : List Byte) : (feedChunk chunk s).dmxSum = s.dmxSum :=
  feedChunk_induct s (fun t => t.dmxSum = s.dmxSum) chunk rfl
    (fun r t h => (handleResult_dmxSum t r).trans h)
@[simp] theorem feedChunk_doaPhase (chunk : List Byte) : (feedChunk chunk s).doaPhase = s.doaPhase :=
  feedChunk_induct s (fun t => t.doaPhase = s.doaPhase) chunk rfl
    (fun r t h => (handleResult_doaPhase t r).trans h)
@[simp] theorem feedChunk_doaSrc (chunk : List Byte) : (feedChunk chunk s).doaSrc = s.doaSrc :=
  feedChunk_induct s (fun t => t.doaSrc = s.doaSrc) chunk rfl
    (fun r t h => (handleResult_doaSrc t r).trans h)
@[simp] theorem feedChunk_doaNewest (chunk : List Byte) : (feedChunk chunk s).doaNewest = s.doaNewest :=
  feedChunk_induct s (fun t => t.doaNewest = s.doaNewest) chunk rfl
    (fun r t h => (handleResult_doaNewest t r).trans h)
@[simp] theorem feedChunk_doaC (chunk : List Byte) : (feedChunk chunk s).doaC = s.doaC :=
  feedChunk_induct s (fun t => t.doaC = s.doaC) chunk rfl
    (fun r t h => (handleResult_doaC t r).trans h)
@[simp] theorem feedChunk_doaI (chunk : List Byte) : (feedChunk chunk s).doaI = s.doaI :=
  feedChunk_induct s (fun t => t.doaI = s.doaI) chunk rfl
    (fun r t h => (handleResult_doaI t r).trans h)
@[simp] theorem feedChunk_doaLag (chunk : List Byte) : (feedChunk chunk s).doaLag = s.doaLag :=
  feedChunk_induct s (fun t => t.doaLag = s.doaLag) chunk rfl
    (fun r t h => (handleResult_doaLag t r).trans h)
@[simp] theorem feedChunk_doaBearing (chunk : List Byte) : (feedChunk chunk s).doaBearing = s.doaBearing :=
  feedChunk_induct s (fun t => t.doaBearing = s.doaBearing) chunk rfl
    (fun r t h => (handleResult_doaBearing t r).trans h)
@[simp] theorem feedChunk_lagTab (chunk : List Byte) : (feedChunk chunk s).lagTab = s.lagTab :=
  feedChunk_induct s (fun t => t.lagTab = s.lagTab) chunk rfl
    (fun r t h => (handleResult_lagTab t r).trans h)
@[simp] theorem feedChunk_srvGoal (chunk : List Byte) : (feedChunk chunk s).srvGoal = s.srvGoal :=
  feedChunk_induct s (fun t => t.srvGoal = s.srvGoal) chunk rfl
    (fun r t h => (handleResult_srvGoal t r).trans h)
@[simp] theorem feedChunk_srvCur (chunk : List Byte) : (feedChunk chunk s).srvCur = s.srvCur :=
  feedChunk_induct s (fun t => t.srvCur = s.srvCur) chunk rfl
    (fun r t h => (handleResult_srvCur t r).trans h)
@[simp] theorem feedChunk_srvPulse (chunk : List Byte) : (feedChunk chunk s).srvPulse = s.srvPulse :=
  feedChunk_induct s (fun t => t.srvPulse = s.srvPulse) chunk rfl
    (fun r t h => (handleResult_srvPulse t r).trans h)
@[simp] theorem feedChunk_txBusy (chunk : List Byte) : (feedChunk chunk s).txBusy = s.txBusy :=
  feedChunk_induct s (fun t => t.txBusy = s.txBusy) chunk rfl
    (fun r t h => (handleResult_txBusy t r).trans h)
@[simp] theorem feedChunk_txBuf (chunk : List Byte) : (feedChunk chunk s).txBuf = s.txBuf :=
  feedChunk_induct s (fun t => t.txBuf = s.txBuf) chunk rfl
    (fun r t h => (handleResult_txBuf t r).trans h)
@[simp] theorem feedChunk_linkTx (chunk : List Byte) : (feedChunk chunk s).linkTx = s.linkTx :=
  feedChunk_induct s (fun t => t.linkTx = s.linkTx) chunk rfl
    (fun r t h => (handleResult_linkTx t r).trans h)
@[simp] theorem feedChunk_txqR (chunk : List Byte) : (feedChunk chunk s).txqR = s.txqR :=
  feedChunk_induct s (fun t => t.txqR = s.txqR) chunk rfl
    (fun r t h => (handleResult_txqR t r).trans h)
@[simp] theorem feedChunk_txqS (chunk : List Byte) : (feedChunk chunk s).txqS = s.txqS :=
  feedChunk_induct s (fun t => t.txqS = s.txqS) chunk rfl
    (fun r t h => (handleResult_txqS t r).trans h)
@[simp] theorem feedChunk_pendBatch (chunk : List Byte) : (feedChunk chunk s).pendBatch = s.pendBatch :=
  feedChunk_induct s (fun t => t.pendBatch = s.pendBatch) chunk rfl
    (fun r t h => (handleResult_pendBatch t r).trans h)
@[simp] theorem feedChunk_pendTxc (chunk : List Byte) : (feedChunk chunk s).pendTxc = s.pendTxc :=
  feedChunk_induct s (fun t => t.pendTxc = s.pendTxc) chunk rfl
    (fun r t h => (handleResult_pendTxc t r).trans h)
@[simp] theorem feedChunk_pendDoa (chunk : List Byte) : (feedChunk chunk s).pendDoa = s.pendDoa :=
  feedChunk_induct s (fun t => t.pendDoa = s.pendDoa) chunk rfl
    (fun r t h => (handleResult_pendDoa t r).trans h)
@[simp] theorem feedChunk_pendStick (chunk : List Byte) : (feedChunk chunk s).pendStick = s.pendStick :=
  feedChunk_induct s (fun t => t.pendStick = s.pendStick) chunk rfl
    (fun r t h => (handleResult_pendStick t r).trans h)
@[simp] theorem feedChunk_linkRxq (chunk : List Byte) : (feedChunk chunk s).linkRxq = s.linkRxq :=
  feedChunk_induct s (fun t => t.linkRxq = s.linkRxq) chunk rfl
    (fun r t h => (handleResult_linkRxq t r).trans h)
@[simp] theorem feedChunk_gGap (chunk : List Byte) : (feedChunk chunk s).gGap = s.gGap :=
  feedChunk_induct s (fun t => t.gGap = s.gGap) chunk rfl
    (fun r t h => (handleResult_gGap t r).trans h)
@[simp] theorem feedChunk_gOverrun (chunk : List Byte) : (feedChunk chunk s).gOverrun = s.gOverrun :=
  feedChunk_induct s (fun t => t.gOverrun = s.gOverrun) chunk rfl
    (fun r t h => (handleResult_gOverrun t r).trans h)
@[simp] theorem feedChunk_gTxDrop (chunk : List Byte) : (feedChunk chunk s).gTxDrop = s.gTxDrop :=
  feedChunk_induct s (fun t => t.gTxDrop = s.gTxDrop) chunk rfl
    (fun r t h => (handleResult_gTxDrop t r).trans h)
@[simp] theorem feedChunk_sched (chunk : List Byte) : (feedChunk chunk s).sched = s.sched :=
  feedChunk_induct s (fun t => t.sched = s.sched) chunk rfl
    (fun r t h => (handleResult_sched t r).trans h)
@[simp] theorem feedChunk_l2Draws (chunk : List Byte) : (feedChunk chunk s).l2Draws = s.l2Draws :=
  feedChunk_induct s (fun t => t.l2Draws = s.l2Draws) chunk rfl
    (fun r t h => (handleResult_l2Draws t r).trans h)
@[simp] theorem feedChunk_ret (chunk : List Byte) : (feedChunk chunk s).ret = s.ret :=
  feedChunk_induct s (fun t => t.ret = s.ret) chunk rfl
    (fun r t h => (handleResult_ret t r).trans h)

/-! ### `applyCommand` -/

/-- An optional field that is absent changes nothing, one that is present acts. -/
theorem whenPresent_cases {α : Type} (P : State → Prop) (v : Option α) (act : α → State → State)
    (h : P s) (hs : ∀ x, P (act x s)) : P (whenPresent v act s) := by
  cases v with
  | none => exact h
  | some x => exact hs x

@[simp] theorem applyCommand_cfg (c : Command) : (applyCommand c s).cfg = s.cfg := by
  rcases c with ⟨p, t, e⟩
  cases p <;> cases t <;> rcases e with _ | ⟨_ | _⟩ <;>
    simp [applyCommand, whenPresent]
@[simp] theorem applyCommand_inReset (c : Command) : (applyCommand c s).inReset = s.inReset := by
  rcases c with ⟨p, t, e⟩
  cases p <;> cases t <;> rcases e with _ | ⟨_ | _⟩ <;>
    simp [applyCommand, whenPresent]
@[simp] theorem applyCommand_capActive (c : Command) : (applyCommand c s).capActive = s.capActive := by
  rcases c with ⟨p, t, e⟩
  cases p <;> cases t <;> rcases e with _ | ⟨_ | _⟩ <;>
    simp [applyCommand, whenPresent]
@[simp] theorem applyCommand_capRdyV (c : Command) : (applyCommand c s).capRdyV = s.capRdyV := by
  rcases c with ⟨p, t, e⟩
  cases p <;> cases t <;> rcases e with _ | ⟨_ | _⟩ <;>
    simp [applyCommand, whenPresent]
@[simp] theorem applyCommand_capOut (c : Command) : (applyCommand c s).capOut = s.capOut := by
  rcases c with ⟨p, t, e⟩
  cases p <;> cases t <;> rcases e with _ | ⟨_ | _⟩ <;>
    simp [applyCommand, whenPresent]
@[simp] theorem applyCommand_mem (c : Command) : (applyCommand c s).mem = s.mem := by
  rcases c with ⟨p, t, e⟩
  cases p <;> cases t <;> rcases e with _ | ⟨_ | _⟩ <;>
    simp [applyCommand, whenPresent]
@[simp] theorem applyCommand_dmxSum (c : Command) : (applyCommand c s).dmxSum = s.dmxSum := by
  rcases c with ⟨p, t, e⟩
  cases p <;> cases t <;> rcases e with _ | ⟨_ | _⟩ <;>
    simp [applyCommand, whenPresent]
@[simp] theorem applyCommand_doaPhase (c : Command) : (applyCommand c s).doaPhase = s.doaPhase := by
  rcases c with ⟨p, t, e⟩
  cases p <;> cases t <;> rcases e with _ | ⟨_ | _⟩ <;>
    simp [applyCommand, whenPresent]
@[simp] theorem applyCommand_doaSrc (c : Command) : (applyCommand c s).doaSrc = s.doaSrc := by
  rcases c with ⟨p, t, e⟩
  cases p <;> cases t <;> rcases e with _ | ⟨_ | _⟩ <;>
    simp [applyCommand, whenPresent]
@[simp] theorem applyCommand_doaNewest (c : Command) : (applyCommand c s).doaNewest = s.doaNewest := by
  rcases c with ⟨p, t, e⟩
  cases p <;> cases t <;> rcases e with _ | ⟨_ | _⟩ <;>
    simp [applyCommand, whenPresent]
@[simp] theorem applyCommand_doaC (c : Command) : (applyCommand c s).doaC = s.doaC := by
  rcases c with ⟨p, t, e⟩
  cases p <;> cases t <;> rcases e with _ | ⟨_ | _⟩ <;>
    simp [applyCommand, whenPresent]
@[simp] theorem applyCommand_doaI (c : Command) : (applyCommand c s).doaI = s.doaI := by
  rcases c with ⟨p, t, e⟩
  cases p <;> cases t <;> rcases e with _ | ⟨_ | _⟩ <;>
    simp [applyCommand, whenPresent]
@[simp] theorem applyCommand_doaLag (c : Command) : (applyCommand c s).doaLag = s.doaLag := by
  rcases c with ⟨p, t, e⟩
  cases p <;> cases t <;> rcases e with _ | ⟨_ | _⟩ <;>
    simp [applyCommand, whenPresent]
@[simp] theorem applyCommand_doaBearing (c : Command) : (applyCommand c s).doaBearing = s.doaBearing := by
  rcases c with ⟨p, t, e⟩
  cases p <;> cases t <;> rcases e with _ | ⟨_ | _⟩ <;>
    simp [applyCommand, whenPresent]
@[simp] theorem applyCommand_lagTab (c : Command) : (applyCommand c s).lagTab = s.lagTab := by
  rcases c with ⟨p, t, e⟩
  cases p <;> cases t <;> rcases e with _ | ⟨_ | _⟩ <;>
    simp [applyCommand, whenPresent]
@[simp] theorem applyCommand_srvCur (c : Command) : (applyCommand c s).srvCur = s.srvCur := by
  rcases c with ⟨p, t, e⟩
  cases p <;> cases t <;> rcases e with _ | ⟨_ | _⟩ <;>
    simp [applyCommand, whenPresent]
@[simp] theorem applyCommand_srvPulse (c : Command) : (applyCommand c s).srvPulse = s.srvPulse := by
  rcases c with ⟨p, t, e⟩
  cases p <;> cases t <;> rcases e with _ | ⟨_ | _⟩ <;>
    simp [applyCommand, whenPresent]
@[simp] theorem applyCommand_rxAcc (c : Command) : (applyCommand c s).rxAcc = s.rxAcc := by
  rcases c with ⟨p, t, e⟩
  cases p <;> cases t <;> rcases e with _ | ⟨_ | _⟩ <;>
    simp [applyCommand, whenPresent]
@[simp] theorem applyCommand_txBusy (c : Command) : (applyCommand c s).txBusy = s.txBusy := by
  rcases c with ⟨p, t, e⟩
  cases p <;> cases t <;> rcases e with _ | ⟨_ | _⟩ <;>
    simp [applyCommand, whenPresent]
@[simp] theorem applyCommand_txBuf (c : Command) : (applyCommand c s).txBuf = s.txBuf := by
  rcases c with ⟨p, t, e⟩
  cases p <;> cases t <;> rcases e with _ | ⟨_ | _⟩ <;>
    simp [applyCommand, whenPresent]
@[simp] theorem applyCommand_linkTx (c : Command) : (applyCommand c s).linkTx = s.linkTx := by
  rcases c with ⟨p, t, e⟩
  cases p <;> cases t <;> rcases e with _ | ⟨_ | _⟩ <;>
    simp [applyCommand, whenPresent]
@[simp] theorem applyCommand_cmdq (c : Command) : (applyCommand c s).cmdq = s.cmdq := by
  rcases c with ⟨p, t, e⟩
  cases p <;> cases t <;> rcases e with _ | ⟨_ | _⟩ <;>
    simp [applyCommand, whenPresent]
@[simp] theorem applyCommand_pendTxc (c : Command) : (applyCommand c s).pendTxc = s.pendTxc := by
  rcases c with ⟨p, t, e⟩
  cases p <;> cases t <;> rcases e with _ | ⟨_ | _⟩ <;>
    simp [applyCommand, whenPresent]
@[simp] theorem applyCommand_pendDoa (c : Command) : (applyCommand c s).pendDoa = s.pendDoa := by
  rcases c with ⟨p, t, e⟩
  cases p <;> cases t <;> rcases e with _ | ⟨_ | _⟩ <;>
    simp [applyCommand, whenPresent]
@[simp] theorem applyCommand_pendStick (c : Command) : (applyCommand c s).pendStick = s.pendStick := by
  rcases c with ⟨p, t, e⟩
  cases p <;> cases t <;> rcases e with _ | ⟨_ | _⟩ <;>
    simp [applyCommand, whenPresent]
@[simp] theorem applyCommand_linkRxq (c : Command) : (applyCommand c s).linkRxq = s.linkRxq := by
  rcases c with ⟨p, t, e⟩
  cases p <;> cases t <;> rcases e with _ | ⟨_ | _⟩ <;>
    simp [applyCommand, whenPresent]
@[simp] theorem applyCommand_diag (c : Command) : (applyCommand c s).diag = s.diag := by
  rcases c with ⟨p, t, e⟩
  cases p <;> cases t <;> rcases e with _ | ⟨_ | _⟩ <;>
    simp [applyCommand, whenPresent]
@[simp] theorem applyCommand_gGap (c : Command) : (applyCommand c s).gGap = s.gGap := by
  rcases c with ⟨p, t, e⟩
  cases p <;> cases t <;> rcases e with _ | ⟨_ | _⟩ <;>
    simp [applyCommand, whenPresent]
@[simp] theorem applyCommand_gOverrun (c : Command) : (applyCommand c s).gOverrun = s.gOverrun := by
  rcases c with ⟨p, t, e⟩
  cases p <;> cases t <;> rcases e with _ | ⟨_ | _⟩ <;>
    simp [applyCommand, whenPresent]
@[simp] theorem applyCommand_gCmdDrop (c : Command) : (applyCommand c s).gCmdDrop = s.gCmdDrop := by
  rcases c with ⟨p, t, e⟩
  cases p <;> cases t <;> rcases e with _ | ⟨_ | _⟩ <;>
    simp [applyCommand, whenPresent]
@[simp] theorem applyCommand_sched (c : Command) : (applyCommand c s).sched = s.sched := by
  rcases c with ⟨p, t, e⟩
  cases p <;> cases t <;> rcases e with _ | ⟨_ | _⟩ <;>
    simp [applyCommand, whenPresent]
@[simp] theorem applyCommand_l2Draws (c : Command) : (applyCommand c s).l2Draws = s.l2Draws := by
  rcases c with ⟨p, t, e⟩
  cases p <;> cases t <;> rcases e with _ | ⟨_ | _⟩ <;>
    simp [applyCommand, whenPresent]
@[simp] theorem applyCommand_ret (c : Command) : (applyCommand c s).ret = s.ret := by
  rcases c with ⟨p, t, e⟩
  cases p <;> cases t <;> rcases e with _ | ⟨_ | _⟩ <;>
    simp [applyCommand, whenPresent]

end Sys2Proof.Machine
end

