-- ==== Sys2Proof/Laws/Store.lean ====
section
/-! SUPPORT. The laws of the stores: a read after a write, the canonical form and the bounds kept by
every memory operation, and reading whole stores. -/

namespace Sys2Proof.Machine

variable {α : Type}

/-! ### Reading and writing one element -/

theorem Store.read_write (st : Store α) (i : Nat) (v : α) (j : Nat) :
    Store.read (Store.write st i v) j = if j = i then some v else Store.read st j := by
  induction st with
  | nil => simp [Store.write, Store.read]
  | cons e rest ih =>
    obtain ⟨k, w⟩ := e
    unfold Store.write
    split
    · simp [Store.read]
    · split
      · subst_vars
        simp only [Store.read]
        split <;> rfl
      · simp only [Store.read, ih]
        split
        · split
          · subst_vars; contradiction
          · rfl
        · rfl

@[simp] theorem Store.read_write_same (st : Store α) (i : Nat) (v : α) :
    Store.read (Store.write st i v) i = some v := by simp [Store.read_write]

theorem Store.read_write_other (st : Store α) (i : Nat) (v : α) {j : Nat} (h : j ≠ i) :
    Store.read (Store.write st i v) j = Store.read st j := by simp [Store.read_write, h]

@[simp] theorem Store.read_nil (i : Nat) : Store.read ([] : Store α) i = none := rfl

theorem Store.read_fromIndex (n : Nat) (vs : List α) (i : Nat) :
    Store.read (Store.fromIndex n vs) i = if n ≤ i then vs[i - n]? else none := by
  induction vs generalizing n with
  | nil => simp [Store.fromIndex]
  | cons v vs ih =>
    simp only [Store.fromIndex, Store.read, ih]
    rcases Nat.lt_trichotomy i n with h | h | h
    · simp [Nat.ne_of_lt h, Nat.not_le.mpr h, Nat.not_le.mpr (Nat.lt_succ_of_lt h)]
    · subst h; simp
    · obtain ⟨k, rfl⟩ : ∃ k, i = n + 1 + k := ⟨i - (n + 1), by omega⟩
      have h1 : n + 1 + k - n = k + 1 := by omega
      have h2 : n + 1 + k - (n + 1) = k := by omega
      simp [h1, h2, show n ≤ n + 1 + k by omega, show n + 1 + k ≠ n by omega]

@[simp] theorem Store.read_ofList (vs : List α) (i : Nat) :
    Store.read (Store.ofList vs) i = vs[i]? := by simp [Store.ofList, Store.read_fromIndex]

/-! ### Reading many elements -/

/-- A read of `n` elements answers `vs` exactly when each of them has its value. -/
theorem Store.readFrom_eq_some (st : Store α) (i n : Nat) (vs : List α) :
    Store.readFrom st i n = some vs ↔
      vs.length = n ∧ ∀ k, k < n → Store.read st (i + k) = vs[k]? := by
  induction n generalizing i vs with
  | zero =>
    simp only [Store.readFrom, Option.some.injEq, Nat.not_lt_zero, false_implies, implies_true,
      and_true]
    exact ⟨fun h => by simp [← h], fun h => (List.length_eq_zero_iff.mp h).symm⟩
  | succ n ih =>
    unfold Store.readFrom
    constructor
    · intro h
      split at h
      · rename_i v ws hv hws
        obtain rfl := Option.some.inj h
        obtain ⟨hl, hr⟩ := (ih (i + 1) ws).mp hws
        refine ⟨by simp [hl], fun k hk => ?_⟩
        cases k with
        | zero => simpa using hv
        | succ k =>
          have := hr k (by omega)
          rw [show i + (k + 1) = i + 1 + k by omega]
          simpa using this
      · cases h
    · rintro ⟨hl, hr⟩
      match vs, hl with
      | v :: ws, hl =>
        have h0 := hr 0 (by omega)
        have hws : Store.readFrom st (i + 1) n = some ws := by
          refine (ih (i + 1) ws).mpr ⟨by simpa using hl, fun k hk => ?_⟩
          have := hr (k + 1) (by omega)
          rw [show i + 1 + k = i + (k + 1) by omega]
          simpa using this
        simp only [Nat.add_zero, List.getElem?_cons_zero] at h0
        rw [h0, hws]

theorem Store.readAll_eq_some (st : Store α) (n : Nat) (vs : List α) :
    Store.readAll st n = some vs ↔ vs.length = n ∧ ∀ k, k < n → Store.read st k = vs[k]? := by
  simp [Store.readAll, Store.readFrom_eq_some]

@[simp] theorem Store.readAll_ofList (vs : List α) :
    Store.readAll (Store.ofList vs) vs.length = some vs :=
  (Store.readAll_eq_some _ _ _).mpr ⟨rfl, fun k _ => Store.read_ofList vs k⟩

/-- Every element of the first `n` has a value exactly when they can be read together. -/
theorem Store.readAll_isSome (st : Store α) (n : Nat) :
    (∃ vs, Store.readAll st n = some vs) ↔ written st n := by
  constructor
  · rintro ⟨vs, h⟩ i hi
    obtain ⟨hl, hr⟩ := (Store.readAll_eq_some st n vs).mp h
    rw [hr i hi]
    simp [hl, hi]
  · intro h
    unfold Store.readAll
    suffices ∀ i m, i + m = n → ∃ vs, Store.readFrom st i m = some vs from this 0 n (by omega)
    intro i m
    induction m generalizing i with
    | zero => exact fun _ => ⟨[], rfl⟩
    | succ m ih =>
      intro hm
      obtain ⟨ws, hws⟩ := ih (i + 1) (by omega)
      obtain ⟨v, hv⟩ := Option.isSome_iff_exists.mp (h i (by omega))
      exact ⟨v :: ws, by simp [Store.readFrom, hv, hws]⟩

/-! ### Written elements -/

theorem written_mono {st : Store α} {m n : Nat} (h : written st n) (hm : m ≤ n) : written st m :=
  fun i hi => h i (by omega)

theorem written_write {st : Store α} {n : Nat} (h : written st n) (i : Nat) (v : α) :
    written (Store.write st i v) n := by
  intro j hj
  rw [Store.read_write]
  split
  · rfl
  · exact h j hj

theorem written_write_next {st : Store α} {n : Nat} (h : written st n) (v : α) :
    written (Store.write st n v) (n + 1) := by
  intro j hj
  rw [Store.read_write]
  split
  · rfl
  · exact h j (by omega)

theorem written_ofList (vs : List α) : written (Store.ofList vs) vs.length := by
  intro i hi
  simp [hi]

/-! ### The canonical form -/

/-- The canonical form, as a statement about the list: rising indices. -/
theorem Store.wf_iff (st : Store α) :
    Store.wf st = true ↔ st.Pairwise (fun a b => a.1 < b.1) := by
  induction st with
  | nil => simp [Store.wf]
  | cons e rest ih =>
    cases rest with
    | nil => simp [Store.wf]
    | cons e' rest =>
      obtain ⟨i, v⟩ := e
      obtain ⟨j, w⟩ := e'
      rw [Store.wf, Bool.and_eq_true, decide_eq_true_eq, ih, List.pairwise_cons (a := (i, v))]
      constructor
      · rintro ⟨h, hp⟩
        refine ⟨fun e he => ?_, hp⟩
        rcases List.mem_cons.mp he with rfl | he
        · exact h
        · exact Nat.lt_trans h ((List.pairwise_cons.mp hp).1 e he)
      · rintro ⟨h, hp⟩
        exact ⟨h (j, w) (List.mem_cons_self ..), hp⟩

theorem Store.mem_write {st : Store α} {i : Nat} {v : α} {e : Nat × α}
    (h : e ∈ Store.write st i v) : e = (i, v) ∨ e ∈ st := by
  induction st with
  | nil => simpa [Store.write] using h
  | cons e' rest ih =>
    obtain ⟨j, w⟩ := e'
    unfold Store.write at h
    split at h
    · rcases List.mem_cons.mp h with h | h
      · exact .inl h
      · exact .inr h
    · split at h
      · rcases List.mem_cons.mp h with h | h
        · exact .inl h
        · exact .inr (List.mem_cons_of_mem _ h)
      · rcases List.mem_cons.mp h with h | h
        · exact .inr (h ▸ List.mem_cons_self ..)
        · exact (ih h).imp id (List.mem_cons_of_mem _)

theorem Store.wf_write {st : Store α} (h : Store.wf st = true) (i : Nat) (v : α) :
    Store.wf (Store.write st i v) = true := by
  rw [Store.wf_iff] at h ⊢
  induction st with
  | nil => simp [Store.write]
  | cons e rest ih =>
    obtain ⟨j, w⟩ := e
    obtain ⟨h1, h2⟩ := List.pairwise_cons.mp h
    unfold Store.write
    split
    · rename_i hlt
      refine List.pairwise_cons.mpr ⟨fun e he => ?_, h⟩
      rcases List.mem_cons.mp he with rfl | he
      · exact hlt
      · exact Nat.lt_trans hlt (h1 e he)
    · split
      · rename_i heq
        subst heq
        exact List.pairwise_cons.mpr ⟨h1, h2⟩
      · refine List.pairwise_cons.mpr ⟨fun e he => ?_, ih h2⟩
        rcases Store.mem_write he with rfl | he
        · show j < i
          omega
        · exact h1 e he

theorem Store.mem_fromIndex {n : Nat} {vs : List α} {e : Nat × α}
    (h : e ∈ Store.fromIndex n vs) : n ≤ e.1 ∧ e.1 < n + vs.length := by
  induction vs generalizing n with
  | nil => simp [Store.fromIndex] at h
  | cons v vs ih =>
    rcases List.mem_cons.mp h with rfl | h
    · simp
    · have := ih h
      simp only [List.length_cons]
      omega

theorem Store.wf_fromIndex (n : Nat) (vs : List α) : Store.wf (Store.fromIndex n vs) = true := by
  rw [Store.wf_iff]
  induction vs generalizing n with
  | nil => simp [Store.fromIndex]
  | cons v vs ih =>
    refine List.pairwise_cons.mpr ⟨fun e he => ?_, ih (n + 1)⟩
    exact (Store.mem_fromIndex he).1

@[simp] theorem Store.wf_ofList (vs : List α) : Store.wf (Store.ofList vs) = true :=
  Store.wf_fromIndex 0 vs

/-- Stores in canonical form are equal when every read agrees. -/
theorem Store.ext_of_wf {s t : Store α} (hs : Store.wf s = true) (ht : Store.wf t = true)
    (h : ∀ i, Store.read s i = Store.read t i) : s = t := by
  have below : ∀ {i : Nat} {v : α} {r : Store α}, ((i, v) :: r).Pairwise (fun a b => a.1 < b.1) →
      ∀ j, j ≤ i → Store.read r j = none := by
    intro i v r hp j hj
    have hr := (List.pairwise_cons.mp hp).1
    clear hp
    induction r with
    | nil => rfl
    | cons e r ih =>
      obtain ⟨k, w⟩ := e
      have hk : i < k := hr (k, w) (List.mem_cons_self ..)
      simp only [Store.read, if_neg (show j ≠ k by omega)]
      exact ih (fun e he => hr e (List.mem_cons_of_mem _ he))
  rw [Store.wf_iff] at hs ht
  induction s generalizing t with
  | nil =>
    cases t with
    | nil => rfl
    | cons e t =>
      have := h e.1
      simp [Store.read] at this
  | cons e s ih =>
    obtain ⟨i, v⟩ := e
    cases t with
    | nil =>
      have := h i
      simp [Store.read] at this
    | cons e t =>
      obtain ⟨j, w⟩ := e
      have hij : i = j := by
        rcases Nat.lt_trichotomy i j with hlt | heq | hlt
        · have := h i
          simp only [Store.read, if_true, if_neg (Nat.ne_of_lt hlt),
            below ht i (Nat.le_of_lt hlt)] at this
          cases this
        · exact heq
        · have := h j
          simp only [Store.read, if_true, if_neg (Nat.ne_of_lt hlt),
            below hs j (Nat.le_of_lt hlt)] at this
          cases this
      subst hij
      have hv : v = w := by simpa [Store.read] using h i
      subst hv
      congr 1
      refine ih (List.pairwise_cons.mp hs).2 (List.pairwise_cons.mp ht).2 (fun k => ?_)
      by_cases hk : k = i
      · subst hk
        rw [below hs k (Nat.le_refl k), below ht k (Nat.le_refl k)]
      · have := h k
        simpa [Store.read, hk] using this

/-! ### Bounds of the listed indices -/

theorem indexedBelow_write {n : Nat} {st : Store α} (h : indexedBelow n st) {i : Nat} (hi : i < n)
    (v : α) : indexedBelow n (Store.write st i v) := by
  intro e he
  rcases Store.mem_write he with rfl | he
  · exact hi
  · exact h e he

theorem indexedBelow_ofList {n : Nat} {vs : List α} (h : vs.length ≤ n) :
    indexedBelow n (Store.ofList vs) := by
  intro e he
  have := (Store.mem_fromIndex he).2
  omega

/-- Beyond a bound of its indices a store holds nothing. -/
theorem read_of_indexedBelow {n : Nat} {st : Store α} (h : indexedBelow n st) {i : Nat}
    (hi : n ≤ i) : Store.read st i = none := by
  induction st with
  | nil => rfl
  | cons e rest ih =>
    obtain ⟨j, w⟩ := e
    have hj : j < n := h (j, w) (List.mem_cons_self ..)
    simp only [Store.read, if_neg (show i ≠ j by omega)]
    exact ih (fun e he => h e (List.mem_cons_of_mem _ he))

/-! ### Channels and memory -/

theorem Channels.get_set (ch : Channels) (c d : Fin 4) (st : Store Sample) :
    (ch.set c st).get d = if d = c then st else ch.get d := by
  match c, d with
  | 0, 0 => rfl
  | 0, 1 => rfl
  | 0, 2 => rfl
  | 0, 3 => rfl
  | 1, 0 => rfl
  | 1, 1 => rfl
  | 1, 2 => rfl
  | 1, 3 => rfl
  | 2, 0 => rfl
  | 2, 1 => rfl
  | 2, 2 => rfl
  | 2, 3 => rfl
  | 3, 0 => rfl
  | 3, 1 => rfl
  | 3, 2 => rfl
  | 3, 3 => rfl

/-- The canonical form, store by store. -/
theorem Memory.wf_iff (m : Memory) : m.wf = true ↔
    (∀ b, Store.wf (m.buf b) = true) ∧ Store.wf m.raw = true ∧
      (∀ c, Store.wf (m.ch.get c) = true) ∧ Store.wf m.corr = true := by
  simp only [Memory.wf, Bool.and_eq_true]
  constructor
  · rintro ⟨⟨⟨⟨⟨⟨⟨h0, h1⟩, hr⟩, c0⟩, c1⟩, c2⟩, c3⟩, hc⟩
    refine ⟨fun b => ?_, hr, fun c => ?_, hc⟩
    · match b with
      | 0 => exact h0
      | 1 => exact h1
    · match c with
      | 0 => exact c0
      | 1 => exact c1
      | 2 => exact c2
      | 3 => exact c3
  · rintro ⟨hb, hr, hch, hc⟩
    exact ⟨⟨⟨⟨⟨⟨⟨hb 0, hb 1⟩, hr⟩, hch 0⟩, hch 1⟩, hch 2⟩, hch 3⟩, hc⟩

theorem Memory.buf_writeFrame (m : Memory) (b d : Fin 2) (i : Nat) (f : Frame) :
    (m.writeFrame b i f).buf d = if d = b then Store.write (m.buf b) i f else m.buf d := by
  match b, d with
  | 0, 0 => rfl
  | 0, 1 => rfl
  | 1, 0 => rfl
  | 1, 1 => rfl

@[simp] theorem Memory.raw_writeFrame (m : Memory) (b : Fin 2) (i : Nat) (f : Frame) :
    (m.writeFrame b i f).raw = m.raw := by
  match b with
  | 0 => rfl
  | 1 => rfl

@[simp] theorem Memory.ch_writeFrame (m : Memory) (b : Fin 2) (i : Nat) (f : Frame) :
    (m.writeFrame b i f).ch = m.ch := by
  match b with
  | 0 => rfl
  | 1 => rfl

@[simp] theorem Memory.corr_writeFrame (m : Memory) (b : Fin 2) (i : Nat) (f : Frame) :
    (m.writeFrame b i f).corr = m.corr := by
  match b with
  | 0 => rfl
  | 1 => rfl

@[simp] theorem Memory.buf_writeRaw (m : Memory) (i : Nat) (f : Frame) (b : Fin 2) :
    (m.writeRaw i f).buf b = m.buf b := by
  match b with
  | 0 => rfl
  | 1 => rfl
@[simp] theorem Memory.raw_writeRaw (m : Memory) (i : Nat) (f : Frame) :
    (m.writeRaw i f).raw = Store.write m.raw i f := rfl
@[simp] theorem Memory.ch_writeRaw (m : Memory) (i : Nat) (f : Frame) :
    (m.writeRaw i f).ch = m.ch := rfl
@[simp] theorem Memory.corr_writeRaw (m : Memory) (i : Nat) (f : Frame) :
    (m.writeRaw i f).corr = m.corr := rfl

@[simp] theorem Memory.buf_writeCh (m : Memory) (c : Fin 4) (i : Nat) (x : Sample) (b : Fin 2) :
    (m.writeCh c i x).buf b = m.buf b := by
  match b with
  | 0 => rfl
  | 1 => rfl
@[simp] theorem Memory.raw_writeCh (m : Memory) (c : Fin 4) (i : Nat) (x : Sample) :
    (m.writeCh c i x).raw = m.raw := rfl
@[simp] theorem Memory.ch_writeCh (m : Memory) (c : Fin 4) (i : Nat) (x : Sample) :
    (m.writeCh c i x).ch = m.ch.set c (Store.write (m.ch.get c) i x) := rfl
@[simp] theorem Memory.corr_writeCh (m : Memory) (c : Fin 4) (i : Nat) (x : Sample) :
    (m.writeCh c i x).corr = m.corr := rfl

@[simp] theorem Memory.buf_setCh (m : Memory) (c : Fin 4) (xs : List Sample) (b : Fin 2) :
    (m.setCh c xs).buf b = m.buf b := by
  match b with
  | 0 => rfl
  | 1 => rfl
@[simp] theorem Memory.raw_setCh (m : Memory) (c : Fin 4) (xs : List Sample) :
    (m.setCh c xs).raw = m.raw := rfl
@[simp] theorem Memory.ch_setCh (m : Memory) (c : Fin 4) (xs : List Sample) :
    (m.setCh c xs).ch = m.ch.set c (Store.ofList xs) := rfl
@[simp] theorem Memory.corr_setCh (m : Memory) (c : Fin 4) (xs : List Sample) :
    (m.setCh c xs).corr = m.corr := rfl

@[simp] theorem Memory.buf_setCorr (m : Memory) (vs : List Acc) (b : Fin 2) :
    (m.setCorr vs).buf b = m.buf b := by
  match b with
  | 0 => rfl
  | 1 => rfl
@[simp] theorem Memory.raw_setCorr (m : Memory) (vs : List Acc) : (m.setCorr vs).raw = m.raw := rfl
@[simp] theorem Memory.ch_setCorr (m : Memory) (vs : List Acc) : (m.setCorr vs).ch = m.ch := rfl
@[simp] theorem Memory.corr_setCorr (m : Memory) (vs : List Acc) :
    (m.setCorr vs).corr = Store.ofList vs := rfl

/-! ### Every memory operation keeps the canonical form -/

theorem Memory.empty_wf : Memory.empty.wf = true := rfl

theorem reset_mem_wf : State.reset.mem.wf = true := rfl

theorem Memory.wf_writeFrame {m : Memory} (h : m.wf = true) (b : Fin 2) (i : Nat) (f : Frame) :
    (m.writeFrame b i f).wf = true := by
  rw [Memory.wf_iff] at h ⊢
  refine ⟨fun d => ?_, by simpa using h.2.1, by simpa using h.2.2.1, by simpa using h.2.2.2⟩
  rw [Memory.buf_writeFrame]
  split
  · exact Store.wf_write (h.1 b) i f
  · exact h.1 d

theorem Memory.wf_writeRaw {m : Memory} (h : m.wf = true) (i : Nat) (f : Frame) :
    (m.writeRaw i f).wf = true := by
  rw [Memory.wf_iff] at h ⊢
  exact ⟨by simpa using h.1, by simpa using Store.wf_write h.2.1 i f, by simpa using h.2.2.1,
    by simpa using h.2.2.2⟩

theorem Memory.wf_writeCh {m : Memory} (h : m.wf = true) (c : Fin 4) (i : Nat) (x : Sample) :
    (m.writeCh c i x).wf = true := by
  rw [Memory.wf_iff] at h ⊢
  refine ⟨by simpa using h.1, by simpa using h.2.1, fun d => ?_, by simpa using h.2.2.2⟩
  rw [Memory.ch_writeCh, Channels.get_set]
  split
  · exact Store.wf_write (h.2.2.1 c) i x
  · exact h.2.2.1 d

theorem Memory.wf_setCh {m : Memory} (h : m.wf = true) (c : Fin 4) (xs : List Sample) :
    (m.setCh c xs).wf = true := by
  rw [Memory.wf_iff] at h ⊢
  refine ⟨by simpa using h.1, by simpa using h.2.1, fun d => ?_, by simpa using h.2.2.2⟩
  rw [Memory.ch_setCh, Channels.get_set]
  split
  · exact Store.wf_ofList xs
  · exact h.2.2.1 d

theorem Memory.wf_setCorr {m : Memory} (h : m.wf = true) (vs : List Acc) :
    (m.setCorr vs).wf = true := by
  rw [Memory.wf_iff] at h ⊢
  exact ⟨by simpa using h.1, by simpa using h.2.1, by simpa using h.2.2.1, by simp⟩

end Sys2Proof.Machine
end

