-- ==== Sys2Proof/Laws/Ops.lean ====
section
/-! SUPPORT. One lemma per shared operation that says once everything it can do when it answers a next
state, and the cases of the operations with a case distinction. -/

namespace Sys2Proof.Machine

/-! ### Sequencing and operands -/

theorem thenDo_eq_next (o : StepOutcome) (k : State → StepOutcome) (t : State) :
    thenDo o k = .next t ↔ ∃ s, o = .next s ∧ k s = .next t := by
  cases o <;> simp [thenDo]

theorem orNoValue_eq_next {α : Type} (store : StoreName) (v : Option α) (k : α → StepOutcome)
    (t : State) : orNoValue store v k = .next t ↔ ∃ x, v = some x ∧ k x = .next t := by
  cases v <;> simp [orNoValue]

theorem ifWellFormed_eq_next (ok : Bool) (k : StepOutcome) (t : State) :
    ifWellFormed ok k = .next t ↔ ok = true ∧ k = .next t := by
  cases ok <;> simp [ifWellFormed]

theorem withBatch_eq_next (s : State) (b : BatchRef) (k : List Frame → StepOutcome) (t : State) :
    withBatch s b k = .next t ↔ ∃ fs, batchValue s b = some fs ∧ k fs = .next t := by
  cases b with
  | values frames =>
    simp only [withBatch, BatchRef.wellFormed, batchValue, beq_iff_eq]
    split <;> simp [*]
  | buffer i => simp [withBatch, batchValue, orNoValue_eq_next]

theorem withSeries_eq_next (s : State) (x : SeriesRef) (k : List Sample → StepOutcome) (t : State) :
    withSeries s x k = .next t ↔ ∃ xs, seriesValue s x = some xs ∧ k xs = .next t := by
  cases x with
  | values frames =>
    simp only [withSeries, SeriesRef.wellFormed, seriesValue, beq_iff_eq]
    split <;> simp [*]
  | channel c => simp [withSeries, seriesValue, orNoValue_eq_next]

/-- A batch operand that has a value goes on with it. -/
theorem withBatch_of_value {s : State} {b : BatchRef} {fs : List Frame} (h : batchValue s b = some fs)
    (k : List Frame → StepOutcome) : withBatch s b k = k fs := by
  cases b with
  | values frames =>
    simp only [batchValue] at h
    split at h
    · obtain rfl := Option.some.inj h
      simp [withBatch, BatchRef.wellFormed, *]
    · cases h
  | buffer i => simp only [batchValue] at h; simp [withBatch, h, orNoValue]

/-- A series operand that has a value goes on with it. -/
theorem withSeries_of_value {s : State} {x : SeriesRef} {xs : List Sample}
    (h : seriesValue s x = some xs) (k : List Sample → StepOutcome) : withSeries s x k = k xs := by
  cases x with
  | values frames =>
    simp only [seriesValue] at h
    split at h
    · obtain rfl := Option.some.inj h
      simp [withSeries, SeriesRef.wellFormed, *]
    · cases h
  | channel c => simp only [seriesValue] at h; simp [withSeries, h, orNoValue]

theorem batchValue_length {s : State} {b : BatchRef} {fs : List Frame}
    (h : batchValue s b = some fs) : fs.length = s.cfg.signalLen := by
  cases b with
  | values frames =>
    simp only [batchValue] at h
    split at h
    · obtain rfl := Option.some.inj h; assumption
    · cases h
  | buffer i => exact ((Store.readAll_eq_some _ _ _).mp h).1

theorem seriesValue_length {s : State} {x : SeriesRef} {xs : List Sample}
    (h : seriesValue s x = some xs) : xs.length = s.cfg.signalLen := by
  cases x with
  | values frames =>
    simp only [seriesValue] at h
    split at h
    · obtain rfl := Option.some.inj h; assumption
    · cases h
  | channel c => exact ((Store.readAll_eq_some _ _ _).mp h).1

theorem withAngle_eq_next (s : State) (lag : Int) (k : Byte → StepOutcome) (t : State) :
    withAngle s lag k = .next t ↔ inLagWindow s.cfg.k lag = true ∧
      ∃ d, s.lagTab[lagIndex s.cfg.k lag]? = some d ∧ k d = .next t := by
  unfold withAngle
  split <;> simp [*, orNoValue_eq_next]

/-! ### Capture -/

theorem startCapture_cases (s : State) :
    (s.capEn = true ∧ startCapture s = s) ∨
    (s.capEn = false ∧ startCapture s =
      { s with capEn := true, capPaused := false, capWr := 0, pendBatch := false }) := by
  unfold startCapture
  cases s.capEn <;> simp

theorem captureFrame_cases (f : Frame) (s : State) :
    (s.capWr < s.cfg.signalLen ∧ captureFrame f s =
      { s with
        mem := s.mem.writeFrame s.capActive s.capWr f
        capWr := s.capWr + 1
        pendBatch := s.pendBatch || s.capWr + 1 == s.cfg.signalLen }) ∨
    (s.cfg.signalLen ≤ s.capWr ∧ captureFrame f s = { s with gGap := true }) := by
  unfold captureFrame
  split
  · exact .inl ⟨‹_›, rfl⟩
  · exact .inr ⟨by omega, rfl⟩

theorem newestBatch_cases (s : State) :
    (s.capWr = s.cfg.signalLen ∧ newestBatch s = (some s.capActive,
      { s with
        gOverrun := s.gOverrun || s.capOut
        capActive := otherBuffer s.capActive
        capWr := 0
        capRdyV := true
        capOut := true })) ∨
    (s.capWr ≠ s.cfg.signalLen ∧ newestBatch s = (none, s)) := by
  unfold newestBatch
  split
  · exact .inl ⟨‹_›, rfl⟩
  · exact .inr ⟨‹_›, rfl⟩

@[simp] theorem otherBuffer_otherBuffer (b : Fin 2) : otherBuffer (otherBuffer b) = b := by
  match b with
  | 0 => rfl
  | 1 => rfl

theorem otherBuffer_ne (b : Fin 2) : otherBuffer b ≠ b := by
  match b with
  | 0 => decide
  | 1 => decide

/-! ### Queues -/

theorem enqueueMessage_cases (m : Message) (s : State) :
    (isSamples m = true ∧ s.txqS.length < s.cfg.txqSamplesCap ∧
      enqueueMessage m s = { s with txqS := s.txqS ++ [m] }) ∨
    (isSamples m = false ∧ s.txqR.length < s.cfg.txqReplyCap ∧
      enqueueMessage m s = { s with txqR := s.txqR ++ [m] }) ∨
    ((if isSamples m then s.cfg.txqSamplesCap ≤ s.txqS.length
      else s.cfg.txqReplyCap ≤ s.txqR.length) ∧
      enqueueMessage m s = { s with gTxDrop := true }) := by
  unfold enqueueMessage
  cases hm : isSamples m <;> simp only [if_true, if_false, Bool.false_eq_true] <;> split
  · exact .inr (.inl ⟨trivial, ‹_›, rfl⟩)
  · exact .inr (.inr ⟨by omega, rfl⟩)
  · exact .inl ⟨trivial, ‹_›, rfl⟩
  · exact .inr (.inr ⟨by omega, rfl⟩)

theorem deliverMessage_cases (m : Message) (s : State) :
    (∃ c, m = .command c ∧ s.cmdq.length < s.cfg.cmdqCap ∧
      deliverMessage m s = { s with cmdq := s.cmdq ++ [c] }) ∨
    (∃ c, m = .command c ∧ s.cfg.cmdqCap ≤ s.cmdq.length ∧
      deliverMessage m s = { s with gCmdDrop := true, diag := s.diag ++ [6] }) ∨
    ((∀ c, m ≠ .command c) ∧ deliverMessage m s = s) := by
  cases m with
  | command c =>
    simp only [deliverMessage]
    split
    · exact .inl ⟨c, rfl, ‹_›, rfl⟩
    · exact .inr (.inl ⟨c, rfl, by omega, rfl⟩)
  | sync => exact .inr (.inr ⟨(fun c h => nomatch h), rfl⟩)
  | panTiltStatus pan tilt => exact .inr (.inr ⟨(fun c h => nomatch h), rfl⟩)
  | samples batch => exact .inr (.inr ⟨(fun c h => nomatch h), rfl⟩)

theorem handleResult_cases (r : FeedResult) (s : State) :
    (∃ m, r = .ready m ∧ handleResult r s = deliverMessage m s) ∨
    handleResult r s = s ∨ (∃ k, handleResult r s = { s with diag := s.diag ++ [k] }) := by
  cases r with
  | ready m => exact .inl ⟨m, rfl, rfl⟩
  | needMore => exact .inr (.inl rfl)
  | overFull => exact .inr (.inr ⟨1, rfl⟩)
  | deserError => exact .inr (.inr ⟨2, rfl⟩)

/-! ### The accumulator -/

theorem splitDelimiter_eq_some (input before rest : List Byte) :
    splitDelimiter input = some (before, rest) ↔
      input = before ++ 0x00 :: rest ∧ ∀ b ∈ before, b ≠ 0x00 := by
  induction input generalizing before rest with
  | nil => simp [splitDelimiter]
  | cons b bs ih =>
    unfold splitDelimiter
    split
    · rename_i hb
      subst hb
      constructor
      · intro h
        obtain ⟨rfl, rfl⟩ := Prod.mk.inj (Option.some.inj h)
        simp
      · rintro ⟨h1, h2⟩
        cases before with
        | nil => simp at h1; simp [h1]
        | cons c cs =>
          simp at h1
          exact absurd h1.1.symm (h2 c (List.mem_cons_self ..))
    · rename_i hb
      constructor
      · intro h
        split at h
        · rename_i bf rs hs
          obtain ⟨rfl, rfl⟩ := Prod.mk.inj (Option.some.inj h)
          obtain ⟨h1, h2⟩ := (ih bf rs).mp hs
          refine ⟨by simp [h1], fun c hc => ?_⟩
          rcases List.mem_cons.mp hc with rfl | hc
          · exact hb
          · exact h2 c hc
        · cases h
      · rintro ⟨h1, h2⟩
        cases before with
        | nil => simp at h1; exact absurd h1.1 hb
        | cons c cs =>
          simp only [List.cons_append, List.cons.injEq] at h1
          obtain ⟨rfl, h1⟩ := h1
          rw [(ih cs rest).mpr ⟨h1, fun d hd => h2 d (List.mem_cons_of_mem _ hd)⟩]

theorem splitDelimiter_eq_none (input : List Byte) :
    splitDelimiter input = none ↔ ∀ b ∈ input, b ≠ 0x00 := by
  induction input with
  | nil => simp [splitDelimiter]
  | cons b bs ih =>
    unfold splitDelimiter
    split
    · simp_all
    · cases h : splitDelimiter bs with
      | none => simp_all
      | some p =>
        simp only [reduceCtorEq, false_iff]
        intro hall
        rw [ih.mpr (fun c hc => hall c (List.mem_cons_of_mem _ hc))] at h
        cases h

/-- The four cases of `FEED` on a non-empty input. -/
theorem feedStep_cases (c : Config) (acc input : List Byte) :
    (input = [] ∧ feedStep c acc input = ⟨acc, .needMore, []⟩) ∨
    (∃ before rest, input = before ++ 0x00 :: rest ∧ (∀ b ∈ before, b ≠ 0x00) ∧
      acc.length + (before.length + 1) ≤ c.nRx ∧
      feedStep c acc input = ⟨[], bodyResult c.signalLen (acc ++ before), rest⟩) ∨
    (∃ before rest, input = before ++ 0x00 :: rest ∧ (∀ b ∈ before, b ≠ 0x00) ∧
      c.nRx < acc.length + (before.length + 1) ∧ feedStep c acc input = ⟨[], .overFull, rest⟩) ∨
    (input ≠ [] ∧ (∀ b ∈ input, b ≠ 0x00) ∧ acc.length + input.length ≤ c.nRx ∧
      feedStep c acc input = ⟨acc ++ input, .needMore, []⟩) ∨
    (input ≠ [] ∧ (∀ b ∈ input, b ≠ 0x00) ∧ c.nRx < acc.length + input.length ∧
      feedStep c acc input = ⟨[], .overFull, input.drop (c.nRx - acc.length)⟩) := by
  unfold feedStep
  cases hi : input with
  | nil => exact .inl ⟨rfl, rfl⟩
  | cons b bs =>
    rw [← hi]
    have hne : input ≠ [] := by simp [hi]
    rw [if_neg (by simp [hi])]
    cases hs : splitDelimiter input with
    | some p =>
      obtain ⟨before, rest⟩ := p
      obtain ⟨h1, h2⟩ := (splitDelimiter_eq_some _ _ _).mp hs
      simp only
      split
      · exact .inr (.inl ⟨before, rest, h1, h2, ‹_›, rfl⟩)
      · exact .inr (.inr (.inl ⟨before, rest, h1, h2, by omega, rfl⟩))
    | none =>
      have h2 := (splitDelimiter_eq_none _).mp hs
      simp only
      split
      · exact .inr (.inr (.inr (.inl ⟨hne, h2, ‹_›, rfl⟩)))
      · exact .inr (.inr (.inr (.inr ⟨hne, h2, by omega, rfl⟩)))

/-- `FEED` never leaves more than `N_RX` bytes in the accumulator. -/
theorem feedStep_acc_le (c : Config) (acc input : List Byte) (h : acc.length ≤ c.nRx) :
    (feedStep c acc input).acc.length ≤ c.nRx := by
  rcases feedStep_cases c acc input with ⟨_, e⟩ | ⟨_, _, _, _, _, e⟩ | ⟨_, _, _, _, _, e⟩ |
    ⟨_, _, hl, e⟩ | ⟨_, _, _, e⟩ <;> rw [e] <;> simp <;> omega

theorem feedRounds_acc_le (c : Config) (k : Nat) (acc input : List Byte) (h : acc.length ≤ c.nRx) :
    (feedRounds c k acc input).2.length ≤ c.nRx := by
  induction k generalizing acc input with
  | zero => simpa [feedRounds] using h
  | succ k ih =>
    have hs := feedStep_acc_le c acc input h
    unfold feedRounds
    simp only
    split
    · exact hs
    · exact ih _ _ hs

/-! ### Sequencer -/

/-- What the processor agent's step is, level by level (60_exceptions R282). -/
theorem processorStep_cases (tx : Bool) (s : State) :
    (s.pendBatch = true ∧ processorStep tx s = execHCaptureComplete s) ∨
    (s.pendBatch = false ∧ (s.pendTxc = true ∨ s.linkRxq ≠ []) ∧
      processorStep tx s = level2Step tx s) ∨
    (s.pendBatch = false ∧ s.pendTxc = false ∧ s.linkRxq = [] ∧
      (s.pendDoa = true ∨ s.doaPhase ≠ .idle) ∧ processorStep tx s = execTDoa s) ∨
    (s.pendBatch = false ∧ s.pendTxc = false ∧ s.linkRxq = [] ∧ s.pendDoa = false ∧
      s.doaPhase = .idle ∧ s.cmdq ≠ [] ∧ processorStep tx s = execTCommand s) ∨
    (s.pendBatch = false ∧ s.pendTxc = false ∧ s.linkRxq = [] ∧ s.pendDoa = false ∧
      s.doaPhase = .idle ∧ s.cmdq = [] ∧ s.pendStick = true ∧
      processorStep tx s = execTServoTick s) ∨
    (s.pendBatch = false ∧ s.pendTxc = false ∧ s.linkRxq = [] ∧ s.pendDoa = false ∧
      s.doaPhase = .idle ∧ s.cmdq = [] ∧ s.pendStick = false ∧
      ((s.txqR ≠ [] ∨ s.txqS ≠ []) ∧ s.txBusy = false) ∧ processorStep tx s = execTTransmit s) ∨
    (s.pendBatch = false ∧ s.pendTxc = false ∧ s.linkRxq = [] ∧ s.pendDoa = false ∧
      s.doaPhase = .idle ∧ s.cmdq = [] ∧ s.pendStick = false ∧
      ((s.txqR = [] ∧ s.txqS = []) ∨ s.txBusy = true) ∧ processorStep tx s = .next s) := by
  unfold processorStep topLevel
  cases h1 : s.pendBatch with
  | true => exact .inl ⟨rfl, by simp [List.find?, runnable, h1]⟩
  | false =>
    right
    by_cases h2 : s.pendTxc = true ∨ s.linkRxq ≠ []
    · refine .inl ⟨rfl, h2, ?_⟩
      have : (s.pendTxc || pendRx s) = true := by
        rcases h2 with h2 | h2
        · simp [h2]
        · cases hq : s.linkRxq with
          | nil => exact absurd hq h2
          | cons a b => simp [pendRx, hq]
      simp [List.find?, runnable, h1, this]
    · right
      simp only [not_or, Bool.not_eq_true, Classical.not_not] at h2
      obtain ⟨h2, h3⟩ := h2
      have hrx : pendRx s = false := by simp [pendRx, h3]
      by_cases h4 : s.pendDoa = true ∨ s.doaPhase ≠ .idle
      · refine .inl ⟨rfl, h2, h3, h4, ?_⟩
        have : (s.pendDoa || s.doaPhase != .idle) = true := by simpa [bne_iff_ne] using h4
        simp [List.find?, runnable, h1, h2, hrx, this]
      · right
        simp only [not_or, Bool.not_eq_true, Classical.not_not] at h4
        obtain ⟨h4, h5⟩ := h4
        by_cases h6 : s.cmdq = []
        · right
          cases h7 : s.pendStick with
          | true =>
            exact .inl ⟨rfl, h2, h3, h4, h5, h6, rfl,
              by simp [List.find?, runnable, h1, h2, hrx, h4, h5, pendCmd, h6, h7]⟩
          | false =>
            right
            by_cases h8 : (s.txqR ≠ [] ∨ s.txqS ≠ []) ∧ s.txBusy = false
            · refine .inl ⟨rfl, h2, h3, h4, h5, h6, rfl, h8, ?_⟩
              have : pendTx s = true := by
                obtain ⟨h8, h9⟩ := h8
                rcases h8 with h8 | h8
                · cases hq : s.txqR with
                  | nil => exact absurd hq h8
                  | cons a b => simp [pendTx, hq, h9]
                · cases hq : s.txqS with
                  | nil => exact absurd hq h8
                  | cons a b => simp [pendTx, hq, h9]
              simp [List.find?, runnable, h1, h2, hrx, h4, h5, pendCmd, h6, h7, this]
            · refine .inr ⟨rfl, h2, h3, h4, h5, h6, rfl, ?_, ?_⟩
              · by_cases hr : s.txqR = [] <;> by_cases hs : s.txqS = [] <;>
                  cases hb : s.txBusy <;> simp_all
              · have : pendTx s = false := by
                  cases hr : s.txqR <;> cases hs : s.txqS <;> cases hb : s.txBusy <;>
                    simp_all [pendTx]
                simp [List.find?, runnable, h1, h2, hrx, h4, h5, pendCmd, h6, h7, this]
        · refine .inl ⟨rfl, h2, h3, h4, h5, h6, ?_⟩
          have : pendCmd s = true := by
            cases hq : s.cmdq with
            | nil => exact absurd hq h6
            | cons a b => simp [pendCmd, hq]
          simp [List.find?, runnable, h1, h2, hrx, h4, h5, this]

theorem level2Step_cases (tx : Bool) (s : State) :
    (s.pendTxc = true ∧ level2Step tx s = execHTxComplete s) ∨ level2Step tx s = execHRx s := by
  unfold level2Step
  split
  · rename_i h
    exact .inl ⟨by simp_all, rfl⟩
  · exact .inr rfl

/-! ### The step -/

/-- A tick of the environment is the `TICK` of an armed unit; there is no other. -/
theorem tickMove_eq_next (f : Frame) (s t : State) :
    tickMove f s = .next t ↔ s.capEn = true ∧ s.capPaused = false ∧ captureFrame f s = t := by
  unfold tickMove execTick
  by_cases h : tickEnabled s = true
  · rw [if_pos h, if_pos h]
    simp only [tickEnabled, Bool.and_eq_true, Bool.not_eq_true'] at h
    simp [h.1, h.2]
  · rw [if_neg h]
    simp only [tickEnabled, Bool.and_eq_true, Bool.not_eq_true'] at h
    constructor
    · intro e; cases e
    · rintro ⟨h1, h2, _⟩; exact absurd ⟨h1, h2⟩ h

/-- The link completes a frame that is in flight and not yet reported; there is no other completion. -/
theorem drainLink_eq_next (s t : State) :
    drainLink s = .next t ↔ s.txBusy = true ∧ s.pendTxc = false ∧
      { s with linkTx := s.linkTx ++ s.txBuf, pendTxc := true } = t := by
  unfold drainLink
  by_cases h : drainEnabled s = true
  · rw [if_pos h]
    simp only [drainEnabled, Bool.and_eq_true, Bool.not_eq_true'] at h
    simp [h.1, h.2]
  · rw [if_neg h]
    simp only [drainEnabled, Bool.and_eq_true, Bool.not_eq_true'] at h
    constructor
    · intro e; cases e
    · rintro ⟨h1, h2, _⟩; exact absurd ⟨h1, h2⟩ h

/-- What a step is: reset exit, an unscheduled turn of the processor agent, or the scheduled turn. -/
theorem step_cases (s : State) :
    (s.inReset = true ∧ step s = exitReset s) ∨
    (s.inReset = false ∧ s.sched = [] ∧ step s = unscheduledStep s) ∨
    (∃ m rest, s.inReset = false ∧ s.sched = m :: rest ∧
      step s = runTurn m { s with sched := rest }) := by
  unfold step
  cases hr : s.inReset with
  | true => exact .inl ⟨rfl, by simp⟩
  | false =>
    cases hs : s.sched with
    | nil => exact .inr (.inl ⟨rfl, rfl, by simp⟩)
    | cons m rest => exact .inr (.inr ⟨m, rest, rfl, rfl, by simp⟩)

end Sys2Proof.Machine
end

