-- ==== Sys2Proof/Laws/Arith.lean ====
section
/-! SUPPORT. Bounds of the arithmetic of the servo, the correlator and the lag table. -/

namespace Sys2Proof.Machine

@[simp] theorem costab_length : costab.length = 181 := by decide +kernel

theorem clamp_bounds (v lo hi : Int) (h : lo ≤ hi) : lo ≤ clamp v lo hi ∧ clamp v lo hi ≤ hi := by
  unfold clamp
  split
  · omega
  · split <;> omega

theorem clamp_eq_exactClamp (v lo hi : Int) : clamp v lo hi = exactClamp v lo hi := rfl

@[simp] theorem xcorr_length (len : Nat) (x y : List Sample) : (xcorr len x y).length = len := by
  simp [xcorr]

@[simp] theorem channelSeries_length (n : Nat) (batch : List Frame) (c : Fin 4) :
    (channelSeries n batch c).length = batch.length := by simp [channelSeries]

@[simp] theorem genLagTable_length (c : Config) : (genLagTable c).length = c.k := by
  simp [genLagTable]

/-- The scan answers a degree of the part of the table it scans, or the default. -/
theorem scanDegrees_le (target : Int) (t : List Int) (d n : Nat) (h : d + t.length ≤ n + 1) :
    scanDegrees target t d ≤ n := by
  induction t generalizing d with
  | nil => simp [scanDegrees]
  | cons a t ih =>
    simp only [List.length_cons] at h
    unfold scanDegrees
    split
    · omega
    · exact ih (d + 1) (by omega)

theorem lagDegree_le (c : Config) (lag : Int) : lagDegree c lag ≤ 180 :=
  scanDegrees_le _ _ 0 180 (by rw [costab_length])

/-- A valid configuration's constraints on one axis. -/
theorem configValid_axis {c : Config} (h : configValid c = true) (a : Axis) :
    1 ≤ (c.servoMax.get a).toInt ∧ 0 ≤ (c.servoInit.get a).toInt ∧
      (c.servoInit.get a).toInt ≤ (c.servoMax.get a).toInt := by
  simp only [configValid, axisValid, Bool.and_eq_true, decide_eq_true_eq] at h
  cases a
  · exact ⟨h.1.1.1.1.1.1.1.2.1.1.1, h.1.1.1.1.1.1.1.2.1.1.2, h.1.1.1.1.1.1.1.2.1.2⟩
  · exact ⟨h.1.1.1.1.1.1.2.1.1.1, h.1.1.1.1.1.1.2.1.1.2, h.1.1.1.1.1.1.2.1.2⟩

/-- A clamped angle is the clamped integer: it fits the 32-bit register. -/
theorem toInt_clampAngle {c : Config} {a : Axis} (h : 0 ≤ (c.servoMax.get a).toInt) (v : Int) :
    (clampAngle c a v).toInt = clamp v 0 (c.servoMax.get a).toInt := by
  have hb := clamp_bounds v 0 (c.servoMax.get a).toInt h
  have hlt := BitVec.toInt_lt (x := c.servoMax.get a)
  unfold clampAngle
  rw [BitVec.toInt_ofInt, Int.bmod_eq_of_le] <;> omega

/-- One step is computed without wrap: it goes toward a goal that is itself an angle. -/
theorem toInt_stepAngle (cur goal : Angle) : (stepAngle cur goal).toInt =
    if cur.toInt < goal.toInt then cur.toInt + 1
    else if cur.toInt > goal.toInt then cur.toInt - 1 else cur.toInt := by
  have h1 := BitVec.toInt_lt (x := goal)
  have h2 := BitVec.toInt_lt (x := cur)
  have h3 := BitVec.le_toInt (x := goal)
  have h4 := BitVec.le_toInt (x := cur)
  unfold stepAngle
  split
  · rw [BitVec.toInt_ofInt, Int.bmod_eq_of_le] <;> omega
  · split
    · rw [BitVec.toInt_ofInt, Int.bmod_eq_of_le] <;> omega
    · rfl

end Sys2Proof.Machine
end

