-- ==== Sys2Proof/Laws/Decode.lean ====
section
/-! SUPPORT. The laws of the integer operand of a directly invoked operation: reading gives back what
was written, and each integer has one form. -/

namespace Sys2Proof

/-- The bytes of a number have its value. -/
theorem ofNatBytes_natBytesUpTo (k v : Nat) (h : v ≤ k) : ofNatBytes (natBytesUpTo k v) = v := by
  induction k generalizing v with
  | zero => simp [natBytesUpTo, ofNatBytes]; omega
  | succ k ih =>
    unfold natBytesUpTo
    split
    · simp [ofNatBytes, *]
    · simp only [ofNatBytes, BitVec.toNat_ofNat]
      rw [ih (v / 256) (by omega)]
      omega

/-- Only 0 has no bytes. -/
theorem natBytesUpTo_eq_nil (k v : Nat) (h : v ≤ k) : natBytesUpTo k v = [] ↔ v = 0 := by
  cases k with
  | zero => simp [natBytesUpTo]; omega
  | succ k => unfold natBytesUpTo; split <;> simp [*]

/-- The bytes of a number do not end in `00`. -/
theorem natBytesUpTo_getLast? (k v : Nat) (h : v ≤ k) : (natBytesUpTo k v).getLast? ≠ some 0x00 := by
  induction k generalizing v with
  | zero => simp [natBytesUpTo]
  | succ k ih =>
    unfold natBytesUpTo
    split
    · simp
    · rename_i hv
      rw [List.getLast?_cons]
      have h2 := ih (v / 256) (by omega)
      rcases hq : (natBytesUpTo k (v / 256)).getLast? with _ | b
      · rw [List.getLast?_eq_none_iff, natBytesUpTo_eq_nil _ _ (by omega)] at hq
        simp only [Option.getD_none, ne_eq, Option.some.injEq]
        intro hb
        have := congrArg BitVec.toNat hb
        simp at this
        omega
      · rw [hq] at h2; simpa using h2

/-- Bytes that do not end in `00` are the bytes of their value. -/
theorem natBytesUpTo_ofNatBytes (k : Nat) (bs : List Byte) (hb : bs.getLast? ≠ some 0x00)
    (h : ofNatBytes bs ≤ k) : natBytesUpTo k (ofNatBytes bs) = bs := by
  induction bs generalizing k with
  | nil => cases k <;> simp [natBytesUpTo, ofNatBytes]
  | cons b bs ih =>
    have hne : ofNatBytes (b :: bs) ≠ 0 := by
      clear ih h
      induction bs generalizing b with
      | nil => 
        simp [ofNatBytes] at hb ⊢
        intro h; apply hb; apply BitVec.eq_of_toNat_eq; simpa using h
      | cons c bs ih =>
        have := ih c (by simpa using hb)
        simp only [ofNatBytes] at this ⊢
        omega
    cases k with
    | zero => omega
    | succ k =>
      have hlt := b.isLt
      simp only [ofNatBytes] at h hne ⊢
      unfold natBytesUpTo
      rw [if_neg hne, show (b.toNat + 256 * ofNatBytes bs) / 256 = ofNatBytes bs by omega, ih k _ (by omega)]
      · congr 1; apply BitVec.eq_of_toNat_eq; simp; omega
      · intro hl
        cases bs with
        | nil => simp at hl
        | cons c cs => exact hb (by simpa using hl)

/-- An integer operand reads back, whatever its size. -/
theorem lastInt_intBytes (v : Int) : lastInt (intBytes v) = .ok v := by
  have h1 := natBytesUpTo_getLast? v.natAbs v.natAbs (Nat.le_refl _)
  have h2 := ofNatBytes_natBytesUpTo v.natAbs v.natAbs (Nat.le_refl _)
  have h3 := natBytesUpTo_eq_nil v.natAbs v.natAbs (Nat.le_refl _)
  unfold intBytes lastInt
  simp only []
  rw [if_neg h1, h2]
  by_cases hv : v < 0
  · rw [if_pos hv, if_neg (by decide), if_pos ⟨rfl, fun h => by have := h3.1 h; omega⟩]
    congr 1; omega
  · rw [if_neg hv, if_pos rfl]; congr 1; omega

/-- An integer operand has one form. -/
theorem intBytes_of_lastInt {bs : List Byte} {v : Int} (h : lastInt bs = .ok v) : intBytes v = bs := by
  unfold lastInt at h
  split at h
  · cases h
  · rename_i sign mag
    split at h
    · cases h
    · rename_i hl
      split at h
      · rename_i hs; cases h
        rw [intBytes, if_neg (by omega), Int.natAbs_natCast, natBytesUpTo_ofNatBytes _ _ hl (Nat.le_refl _), hs]
      · split at h
        · rename_i hs; cases h
          have hr := natBytesUpTo_ofNatBytes _ _ hl (Nat.le_refl (ofNatBytes mag))
          have hpos : ofNatBytes mag ≠ 0 := fun h0 => hs.2 (by rw [h0] at hr; simpa [natBytesUpTo] using hr.symm)
          rw [intBytes, if_pos (by omega), Int.natAbs_neg, Int.natAbs_natCast, hr, hs.1]
        · cases h

end Sys2Proof
end

