-- ==== Sys2Proof/Laws/PerInstr.lean ====
section
/-! SUPPORT. The statement made instruction by instruction: the encoding of an instruction starts with
the byte that spec/opcode_table.json gives its row (the tag of a Message, 30_encoding R92; the number of
an operation, R110; the tag of the `Command` a text command expands to, R118). -/

namespace Sys2Proof.Laws.LeadByte

/-- The `match` value of the instruction's row in spec/opcode_table.json. -/
def tableByte : Instr → Byte
  | .sync => 0x00
  | .panTiltStatus _ _ => 0x01
  | .samples _ => 0x02
  | .command _ => 0x03
  | .startSampling => 0x00
  | .stopSampling => 0x01
  | .tick _ => 0x02
  | .getNewestBatch => 0x03
  | .releaseBatch => 0x04
  | .fromBatch _ => 0x10
  | .xcorrReal _ _ => 0x20
  | .calcLag _ _ => 0x21
  | .genLagTable => 0x30
  | .reduceLag _ => 0x31
  | .lagToAngle _ => 0x32
  | .calcAngle _ _ => 0x33
  | .setGoal _ _ => 0x40
  | .addGoalOffset _ _ => 0x41
  | .step _ => 0x42
  | .degToPulse _ _ => 0x43
  | .serialize _ => 0x50
  | .deserialize _ => 0x51
  | .stuff _ => 0x52
  | .unstuff _ => 0x53
  | .encodeFrame _ => 0x54
  | .feed _ => 0x55
  | .send _ => 0x56
  | .enqueueTx _ => 0x57
  | .sendSync => 0x58
  | .hCaptureComplete => 0x60
  | .hRx => 0x61
  | .hTxComplete => 0x62
  | .tDoa => 0x63
  | .tCommand => 0x64
  | .tServoTick => 0x65
  | .tTransmit => 0x66
  | .textPan _ => 0x03
  | .textTilt _ => 0x03
  | .textStart => 0x03
  | .textStop => 0x03

/-- The encoding of an instruction starts with the byte of its row. -/
def Statement (i : Instr) : Prop := (encode i).head? = some (tableByte i)

theorem sync : Statement .sync := rfl
theorem panTiltStatus (pan tilt : Angle) : Statement (.panTiltStatus pan tilt) := rfl
theorem samples (batch : List Frame) : Statement (.samples batch) := rfl
theorem command (cmd : Command) : Statement (.command cmd) := rfl
theorem startSampling : Statement .startSampling := rfl
theorem stopSampling : Statement .stopSampling := rfl
theorem tick (f : Frame) : Statement (.tick f) := rfl
theorem getNewestBatch : Statement .getNewestBatch := rfl
theorem releaseBatch : Statement .releaseBatch := rfl
theorem fromBatch (batch : BatchRef) : Statement (.fromBatch batch) := rfl
theorem xcorrReal (x y : SeriesRef) : Statement (.xcorrReal x y) := rfl
theorem calcLag (x y : SeriesRef) : Statement (.calcLag x y) := rfl
theorem genLagTable : Statement .genLagTable := rfl
theorem reduceLag (lag : Int) : Statement (.reduceLag lag) := rfl
theorem lagToAngle (lag : Int) : Statement (.lagToAngle lag) := rfl
theorem calcAngle (chA chB : SeriesRef) : Statement (.calcAngle chA chB) := rfl
theorem setGoal (a : Axis) (degrees : Angle) : Statement (.setGoal a degrees) := rfl
theorem addGoalOffset (a : Axis) (bearing : Byte) : Statement (.addGoalOffset a bearing) := rfl
theorem step (a : Axis) : Statement (.step a) := rfl
theorem degToPulse (a : Axis) (degrees : Int) : Statement (.degToPulse a degrees) := rfl
theorem serialize (msg : Message) : Statement (.serialize msg) := rfl
theorem deserialize (payload : List Byte) : Statement (.deserialize payload) := rfl
theorem stuff (payload : List Byte) : Statement (.stuff payload) := rfl
theorem unstuff (body : List Byte) : Statement (.unstuff body) := rfl
theorem encodeFrame (msg : Message) : Statement (.encodeFrame msg) := rfl
theorem feed (input : List Byte) : Statement (.feed input) := rfl
theorem send (frame : List Byte) : Statement (.send frame) := rfl
theorem enqueueTx (msg : Message) : Statement (.enqueueTx msg) := rfl
theorem sendSync : Statement .sendSync := rfl
theorem hCaptureComplete : Statement .hCaptureComplete := rfl
theorem hRx : Statement .hRx := rfl
theorem hTxComplete : Statement .hTxComplete := rfl
theorem tDoa : Statement .tDoa := rfl
theorem tCommand : Statement .tCommand := rfl
theorem tServoTick : Statement .tServoTick := rfl
theorem tTransmit : Statement .tTransmit := rfl
theorem textPan (deg : Angle) : Statement (.textPan deg) := rfl
theorem textTilt (deg : Angle) : Statement (.textTilt deg) := rfl
theorem textStart : Statement .textStart := rfl
theorem textStop : Statement .textStop := rfl

end Sys2Proof.Laws.LeadByte
end

