-- ==== Sys2Proof/Tests/Slice0.lean ====
section
/-! SUPPORT. The model's own tests: ill-formed instructions are refused; words written out from the
spec's encodings decode; one or two steps per instruction against the spec's examples
(spec/95_test_vectors.md, and the example of each rule); and for each statement with hypotheses a state
and operands that meet them. -/

namespace Sys2Proof.Machine.Tests

-- The tests elaborate one after another: many at once ask for many threads.
set_option Elab.async false

open Sys2Proof Sys2Proof.Machine

/-! ### States -/

/-- Out of reset, under the configuration of `State.reset` (SIGNAL_LEN 2, XCORR_LEN 3, K 9, N_RX 16). -/
def base : State := { State.reset with inReset := false }

/-- Sampling armed. -/
def armed : State := { base with capEn := true }

def f1 : Frame := ⟨5, 6, 7, 8⟩
def f2 : Frame := ⟨1, 2, 3, 4⟩

/-- The active buffer 0 full, the event pending. -/
def full : State :=
  { armed with
    mem := { base.mem with buf0 := [(0, f1), (1, f2)] }, capWr := 2, pendBatch := true }

/-- A batch handed over: buffer 0 written and released by capture, the DoA task requested. -/
def handed : State :=
  { full with
    capActive := 1, capWr := 0, capRdyV := true, capOut := true, pendBatch := false,
    doaNewest := 0, pendDoa := true }

/-- The copy phase at its last frame. -/
def copying : State :=
  { handed with
    pendDoa := false, doaPhase := .copyTx, doaI := 1, mem := { full.mem with raw := [(0, f1)] } }

/-- The demux phase at its first sample. -/
def demuxing : State := { handed with pendDoa := false, doaPhase := .demux }

/-- The four channels written. -/
def channels : State :=
  { base with
    mem := { base.mem with
      ch := ⟨[(0, 1), (1, 2)], [(0, 2), (1, 1)], [(0, 3), (1, 0)], [(0, 0), (1, 3)]⟩ } }

/-- A frame in flight. -/
def sending : State := { base with txBusy := true, txBuf := [0x01, 0x01, 0x00] }

/-- Both level-2 handlers pending. -/
def tie : State := { sending with pendTxc := true, linkRxq := [[0x02, 0x03, 0x01]] }

/-! ### Ill-formed instructions are refused -/

theorem test_wf_samples : Instr.wellFormed 2 (.samples [f1]) = false := by decide
theorem test_wf_fromBatch : Instr.wellFormed 2 (.fromBatch (.values [f1])) = false := by decide
theorem test_wf_xcorrReal : Instr.wellFormed 2 (.xcorrReal (.values [1]) (.channel 0)) = false := by
  decide
theorem test_wf_calcLag : Instr.wellFormed 2 (.calcLag (.channel 0) (.values [1])) = false := by decide
theorem test_wf_calcAngle : Instr.wellFormed 2 (.calcAngle (.values []) (.channel 1)) = false := by
  decide
theorem test_wf_addGoalOffset : Instr.wellFormed 2 (.addGoalOffset .pan 181) = false := by decide
theorem test_wf_serialize : Instr.wellFormed 2 (.serialize (.samples [])) = false := by decide
theorem test_wf_encodeFrame : Instr.wellFormed 2 (.encodeFrame (.samples [f1])) = false := by decide
theorem test_wf_enqueueTx : Instr.wellFormed 2 (.enqueueTx (.samples [f1])) = false := by decide
theorem test_wf_unstuff : Instr.wellFormed 2 (.unstuff [0x02, 0x00]) = false := by decide
theorem test_wf_send : Instr.wellFormed 2 (.send [0x01]) = false := by decide
theorem test_wf_refused_at_run :
    refusalOf (exec (.samples [f1]) base) = some .illFormed ∧
    refusalOf (exec (.fromBatch (.values [f1])) base) = some .illFormed ∧
    refusalOf (exec (.xcorrReal (.values [1]) (.values [1, 2])) base) = some .illFormed ∧
    refusalOf (exec (.addGoalOffset .pan 181) base) = some .illFormed ∧
    refusalOf (exec (.unstuff [0x02, 0x00]) base) = some .illFormed ∧
    refusalOf (exec (.send []) base) = some .illFormed := by decide

/-! ### Decoding, one word per constructor

Payloads: 30_encoding R93 to R96, R118 and the examples of 45_framing R216. Operation numbers: R110;
operand bytes: log 7. -/

/-- The bytes decode to the instruction, with `SIGNAL_LEN` = 2. -/
def reads (l : Layer) (bs : List Byte) (i : Instr) : Bool :=
  match decode 2 l bs with
  | .ok j => j == i
  | .error _ => false

theorem test_dec_sync : reads .payload [0x00] .sync = true := by decide
theorem test_dec_panTiltStatus :
    reads .payload [0x01, 0x5A, 0, 0, 0, 0x2D, 0, 0, 0] (.panTiltStatus 90 45) = true := by decide
theorem test_dec_samples :
    reads .payload [0x02, 0x01, 0, 0, 0, 0xFF, 0xFF, 0, 0x01, 0, 0, 0, 0, 0, 0, 0, 0]
      (.samples [⟨1, 0, -1, 256⟩, ⟨0, 0, 0, 0⟩]) = true := by decide
theorem test_dec_command :
    reads .payload [0x03, 0x01, 0x00, 0x01, 0, 0, 0x01, 0, 0, 0, 0, 0x01, 0x01]
      (.command ⟨some 256, some 0, some true⟩) = true := by decide
theorem test_dec_cap :
    reads .operation [0x00] .startSampling = true ∧ reads .operation [0x01] .stopSampling = true ∧
    reads .operation [0x02, 5, 0, 6, 0, 7, 0, 8, 0] (.tick f1) = true ∧
    reads .operation [0x03] .getNewestBatch = true ∧ reads .operation [0x04] .releaseBatch = true := by
  decide
theorem test_dec_dmx :
    reads .operation [0x10, 0x02] (.fromBatch (.buffer 1)) = true ∧
    reads .operation [0x10, 0x00, 5, 0, 6, 0, 7, 0, 8, 0, 1, 0, 2, 0, 3, 0, 4, 0]
      (.fromBatch (.values [f1, f2])) = true := by decide
theorem test_dec_xc :
    reads .operation [0x20, 0x01, 0x04] (.xcorrReal (.channel 0) (.channel 3)) = true ∧
    reads .operation [0x21, 0x00, 1, 0, 0xFF, 0xFF, 0x02] (.calcLag (.values [1, -1]) (.channel 1)) =
      true := by decide
theorem test_dec_ang :
    reads .operation [0x30] .genLagTable = true ∧
    reads .operation [0x31, 0x00, 5] (.reduceLag 5) = true ∧
    reads .operation [0x32, 0x01, 4] (.lagToAngle (-4)) = true ∧
    reads .operation [0x33, 0x03, 0x04] (.calcAngle (.channel 2) (.channel 3)) = true := by decide
theorem test_dec_srv :
    reads .operation [0x40, 0x00, 0x1E, 0, 0, 0] (.setGoal .pan 30) = true ∧
    reads .operation [0x41, 0x01, 0x72] (.addGoalOffset .tilt 114) = true ∧
    reads .operation [0x42, 0x01] (.step .tilt) = true ∧
    reads .operation [0x43, 0x00, 0x00, 0x5A] (.degToPulse .pan 90) = true := by decide
theorem test_dec_frm :
    reads .operation [0x50, 0x00] (.serialize .sync) = true ∧
    reads .operation [0x51, 0x04] (.deserialize [0x04]) = true ∧
    reads .operation [0x52, 0x11, 0x00] (.stuff [0x11, 0x00]) = true ∧
    reads .operation [0x53, 0x01] (.unstuff [0x01]) = true ∧
    reads .operation [0x54, 0x00] (.encodeFrame .sync) = true ∧
    reads .operation [0x55, 0x02, 0x00] (.feed [0x02, 0x00]) = true ∧
    reads .operation [0x56, 0x01, 0x01] (.send [0x01, 0x01, 0x00]) = true := by decide
theorem test_dec_seq :
    reads .operation [0x57, 0x00] (.enqueueTx .sync) = true ∧ reads .operation [0x58] .sendSync = true ∧
    reads .operation [0x60] .hCaptureComplete = true ∧ reads .operation [0x61] .hRx = true ∧
    reads .operation [0x62] .hTxComplete = true ∧ reads .operation [0x63] .tDoa = true ∧
    reads .operation [0x64] .tCommand = true ∧ reads .operation [0x65] .tServoTick = true ∧
    reads .operation [0x66] .tTransmit = true := by decide
theorem test_dec_text :
    reads .text [0x03, 0x01, 0x1E, 0, 0, 0, 0, 0] (.textPan 30) = true ∧
    reads .text [0x03, 0x00, 0x01, 0x78, 0, 0, 0, 0] (.textTilt 120) = true ∧
    reads .text [0x03, 0, 0, 0x01, 0x01] .textStart = true ∧
    reads .text [0x03, 0, 0, 0x01, 0x00] .textStop = true := by decide
/-- The examples of 45_framing R217. -/
theorem test_dec_illegal :
    (deserialize 2 [0x04]).isOk = false ∧ (deserialize 2 [0x00, 0x00]).isOk = false ∧
    (deserialize 2 [0x01, 0x01, 0, 0, 0]).isOk = false ∧
    (deserialize 2 [0x03, 0x02, 0, 0]).isOk = false ∧
    (deserialize 2 [0x03, 0, 0, 0x01, 0x02]).isOk = false := by decide
theorem test_table_words :
    decodeTableWord 8 0x00 = some .sync ∧ decodeTableWord 8 0x42 = some (.step .pan) ∧
    decodeTableWord 8 0x63 = some .tDoa ∧ decodeTableWord 8 0x05 = none := by decide

/-! ### The written form of the text commands (R118) -/

theorem test_text_form :
    parseText ['p', 'a', 'n', ' ', '3', '0'] = some (.textPan 30) ∧
    parseText ['t', 'i', 'l', 't', ' ', '-', '5'] = some (.textTilt (-5)) ∧
    parseText ['s', 't', 'a', 'r', 't'] = some .textStart ∧
    parseText ['p', 'a', 'n', ' ', '2', '1', '4', '7', '4', '8', '3', '6', '4', '8'] = none := by
  decide

/-! ### One step -/

/-- 95 K1, K2. -/
theorem test_start :
    (nextOf (exec .startSampling { base with capWr := 1, capActive := 1 })).map
      (fun t => (t.capEn, t.capWr, t.capActive)) = some (true, 0, 1) ∧
    nextOf (exec .startSampling { armed with capWr := 1 }) = some { armed with capWr := 1 } := by decide +kernel
/-- 95 K3. -/
theorem test_stop : (nextOf (exec .stopSampling { armed with capWr := 1 })).map
    (fun t => (t.capEn, t.capWr)) = some (false, 1) := by decide
/-- 95 K5. -/
theorem test_tick : (nextOf (exec (.tick f2) { armed with capWr := 1 })).map
    (fun t => (t.mem.readFrame 0 1, t.capWr, t.pendBatch)) = some (some f2, 2, true) := by decide
/-- 95 K6. -/
theorem test_tick_full : (nextOf (exec (.tick f2) full)).map
    (fun t => (t.mem == full.mem, t.capWr, t.gGap)) = some (true, 2, true) := by decide
/-- 95 K8, K10. -/
theorem test_newest :
    (nextOf (exec .getNewestBatch full)).map
      (fun t => (t.ret, t.capActive, t.capWr, t.capRdyV, t.capOut, t.gOverrun)) =
      some (.batch (some 0), 1, 0, true, true, false) ∧
    (nextOf (exec .getNewestBatch { armed with capWr := 1 })).map (·.ret) = some (.batch none) := by
  decide
/-- 95 K11. -/
theorem test_release : (nextOf (exec .releaseBatch { base with capOut := true })).map (·.capOut) =
    some false := by decide
/-- 41_demux R152: the sum 404 over 4 frames gives mean 101; -65537 gives -16384, and saturation. -/
theorem test_fromBatch : (nextOf (exec (.fromBatch (.values
      [⟨100, -3, 32767, -32768⟩, ⟨102, -4, 32767, -32768⟩, ⟨98, -5, -32768, 32767⟩,
        ⟨104, -1, 32767, -32768⟩])) { base with cfg := { base.cfg with signalLen := 4 } })).map
      (fun t => (Store.readAll t.mem.ch.s0 4, Store.readAll t.mem.ch.s1 4, Store.readAll t.mem.ch.s3 4)) =
    some (some [-1, 1, -3, 3], some [0, -1, -2, 2], some [-16384, -16384, 32767, -16384]) := by decide
/-- 95 X2: CORR = (8, -7, 19). -/
theorem test_xcorr : (nextOf (exec (.xcorrReal (.values [3, -1, 2]) (.values [2, 5, -4]))
      { base with cfg := { base.cfg with signalLen := 3 } })).map
      (fun t => Store.readAll t.mem.corr 3) = some (some [8, -7, 19]) := by decide
/-- 42_xcorr R164 (d): all elements negative, the first maximum wins. -/
theorem test_calcLag : (nextOf (exec (.calcLag (.values [1, 1]) (.values [-1, -1])) base)).map (·.ret) =
    some (.lag (-1)) := by decide
/-- 43_angle R182, first row. -/
theorem test_genLagTable : (nextOf (exec .genLagTable { base with lagTab := [] })).map (·.lagTab) =
    some [145, 128, 114, 102, 90, 79, 67, 53, 36] := by decide +kernel
/-- 43_angle R179: K = 9; the last is a lag outside 32 bits. -/
theorem test_reduceLag :
    [5, 8, 9, -5, -9, 4, 2 ^ 40 + 1].map (fun l => (nextOf (exec (.reduceLag l) base)).map (·.ret)) =
    [-3, -4, -3, 3, 3, 4, -3].map (fun l => some (.lag l)) := by decide +kernel
/-- 43_angle R180. -/
theorem test_lagToAngle :
    (nextOf (exec (.lagToAngle (-4)) base)).map (·.ret) = some (.degree 145) ∧
    refusalOf (exec (.lagToAngle 5) base) = some .lagOutsideWindow := by decide +kernel
/-- Lag -1 stands at entry 3 of the table. -/
theorem test_calcAngle : (nextOf (exec (.calcAngle (.values [1, 1]) (.values [-1, -1])) base)).map
    (·.ret) = some (.degree 102) := by decide +kernel
/-- 44_servo R196. -/
theorem test_setGoal : [30, 200, -5].map (fun d =>
      (nextOf (exec (.setGoal .pan (BitVec.ofInt 32 d)) base)).map (·.srvGoal)) =
    [some ⟨30, 45⟩, some ⟨180, 45⟩, some ⟨0, 45⟩] := by decide
/-- 44_servo R199. -/
theorem test_addGoalOffset :
    (nextOf (exec (.addGoalOffset .pan 79) base)).map (·.srvGoal) = some ⟨79, 45⟩ ∧
    (nextOf (exec (.addGoalOffset .tilt 145) base)).map (·.srvGoal) = some ⟨90, 90⟩ := by decide
/-- 44_servo R198: 90 toward 79; the pulse is that of the new angle. -/
theorem test_step : (nextOf (exec (.step .pan) { base with srvGoal := ⟨79, 45⟩ })).map
    (fun t => (t.srvCur, t.srvPulse.pan)) = some (⟨89, 45⟩, 1488) := by decide
/-- 44_servo R200. -/
theorem test_degToPulse : [0, 1, 179, 200, -5].map (fun d =>
      (nextOf (exec (.degToPulse .pan d) base)).map (·.ret)) =
    [500, 511, 2488, 2500, 500].map (fun p => some (.pulse p)) := by decide
/-- 45_framing R216. -/
theorem test_serialize : (nextOf (exec (.serialize (.command ⟨some (-5), none, none⟩)) base)).map (·.ret) =
    some (.bytes [0x03, 0x01, 0xFB, 0xFF, 0xFF, 0xFF, 0x00, 0x00]) := by decide
/-- 45_framing R217. -/
theorem test_deserialize :
    (nextOf (exec (.deserialize [0x03, 0, 0, 0x01, 0x01]) base)).map (·.ret) =
      some (.message (.command ⟨none, none, some true⟩)) ∧
    (nextOf (exec (.deserialize [0x00, 0x00]) base)).map (·.ret) =
      some (.condition .deserError) := by decide
/-- 45_framing R218. -/
theorem test_stuff :
    (nextOf (exec (.stuff [0x11, 0x22, 0x00, 0x33]) base)).map (·.ret) =
      some (.bytes [0x03, 0x11, 0x22, 0x02, 0x33]) ∧
    (nextOf (exec (.stuff []) base)).map (·.ret) = some (.bytes [0x01]) := by decide
/-- 45_framing R219. -/
theorem test_unstuff :
    (nextOf (exec (.unstuff [0x03, 0x11, 0x22, 0x02, 0x33]) base)).map (·.ret) =
      some (.bytes [0x11, 0x22, 0x00, 0x33]) ∧
    (nextOf (exec (.unstuff [0x05, 0x11, 0x22]) base)).map (·.ret) =
      some (.condition .deserError) := by decide
/-- 45_framing R220. -/
theorem test_encodeFrame : (nextOf (exec (.encodeFrame (.panTiltStatus 0 (-1))) base)).map (·.ret) =
    some (.bytes [0x02, 0x01, 0x01, 0x01, 0x01, 0x05, 0xFF, 0xFF, 0xFF, 0xFF, 0x00]) := by decide
/-- 45_framing R226, N_RX = 8 and N_RX = 6. -/
theorem test_feed :
    (nextOf (exec (.feed [0x02, 0x03, 0x01, 0x03, 0x01, 0x01, 0x00])
      { base with cfg := { base.cfg with nRx := 8 } })).map (·.ret) =
      some (.feed (.ready (.command ⟨none, none, some true⟩)) []) ∧
    (nextOf (exec (.feed [0x02, 0x03, 0x01, 0x03, 0x01, 0x01, 0x00])
      { base with cfg := { base.cfg with nRx := 6 } })).map (·.ret) =
      some (.feed .overFull []) := by decide
/-- 45_framing R230. -/
theorem test_send :
    (nextOf (exec (.send [0x01, 0x01, 0x00]) base)).map (fun t => (t.txBusy, t.txBuf)) =
      some (true, [0x01, 0x01, 0x00]) ∧
    (nextOf (exec (.send [0x02, 0x01, 0x00]) sending)).map (fun t => (t.ret, t.txBuf)) =
      some (.condition .txBusy, [0x01, 0x01, 0x00]) := by decide
/-- 46_tasks R259. -/
theorem test_enqueueTx :
    (nextOf (exec (.enqueueTx (.samples [f1, f2])) base)).map (fun t => (t.txqR, t.txqS.length)) =
      some ([], 1) ∧
    (nextOf (exec (.enqueueTx .sync) { base with txqR := [.sync] })).map
      (fun t => (t.txqR, t.gTxDrop)) = some ([.sync], true) := by decide
/-- 46_tasks R260. -/
theorem test_sendSync : (nextOf (exec .sendSync base)).map (·.txqR) = some [.sync] := by decide
/-- 46_tasks R253. -/
theorem test_hCaptureComplete : (nextOf (exec .hCaptureComplete full)).map
    (fun t => (t.capActive, t.capWr, t.capOut, t.doaNewest, t.pendDoa, t.pendBatch)) =
    some (1, 0, true, 0, true, false) := by decide
/-- 46_tasks R251: the first chunk leaves RX.FILL = 3. -/
theorem test_hRx :
    (nextOf (exec .hRx { base with linkRxq := [[0x02, 0x03, 0x01], [0x03, 0x01, 0x01, 0x00]] })).map
      (fun t => (rxFill t, t.cmdq)) = some (3, []) ∧
    (nextOf (exec .hRx { base with
      rxAcc := [0x02, 0x03, 0x01], linkRxq := [[0x03, 0x01, 0x01, 0x00]] })).map
      (fun t => (rxFill t, t.cmdq)) = some (0, [⟨none, none, some true⟩]) := by decide
/-- 46_tasks R252. -/
theorem test_hTxComplete : (nextOf (exec .hTxComplete { sending with pendTxc := true })).map
    (fun t => (t.pendTxc, t.txBusy)) = some (false, false) := by decide
/-- 46_tasks R255: the last frame of the copy queues the batch. -/
theorem test_tDoa_copy : (nextOf (exec .tDoa copying)).map
    (fun t => (t.txqS, t.doaI, t.doaPhase)) = some ([.samples [f1, f2]], 0, .demux) := by decide
/-- 46_tasks R256: 5 + 1 over 2 frames gives mean 3. -/
theorem test_tDoa_demux : (nextOf (exec .tDoa { demuxing with
      doaI := 1, dmxSum := 5, mem := { full.mem with ch := ⟨[(0, 5)], [], [], []⟩ } })).map
    (fun t => (Store.readAll t.mem.ch.s0 2, t.dmxSum, t.doaC)) = some (some [2, -2], 0, 1) := by decide
/-- 46_tasks R261. -/
theorem test_tCommand : (nextOf (exec .tCommand { base with cmdq := [⟨some 30, none, some true⟩] })).map
    (fun t => (t.srvGoal.pan, t.capEn, t.capWr, t.txqR, t.cmdq)) =
    some (30, true, 0, [.panTiltStatus 90 45], []) := by decide
/-- 46_tasks R263. -/
theorem test_tServoTick : (nextOf (exec .tServoTick { base with
      srvGoal := ⟨79, 90⟩, pendStick := true })).map (fun t => (t.srvCur, t.pendStick)) =
    some (⟨89, 46⟩, false) := by decide
/-- 46_tasks R262: the reply goes first. -/
theorem test_tTransmit : (nextOf (exec .tTransmit { base with
      txqR := [.sync], txqS := [.samples [f1, f2]] })).map
    (fun t => (t.txBuf, t.txBusy, t.txqR, t.txqS.length)) =
    some ([0x01, 0x01, 0x00], true, [], 1) := by decide
/-- 30_encoding R107: an empty Command changes nothing but gives a status reply. -/
theorem test_command : (nextOf (exec (.command ⟨none, none, none⟩) base)) =
    some { base with txqR := [.panTiltStatus 90 45] } := by decide +kernel
theorem test_messages_discarded : nextOf (exec .sync base) = some base ∧
    nextOf (exec (.panTiltStatus 1 2) base) = some base ∧
    nextOf (exec (.samples [f1, f2]) base) = some base := by decide +kernel
theorem test_textPan : (nextOf (exec (.textPan 30) base)).map (·.srvGoal.pan) = some 30 := by decide
theorem test_textTilt : (nextOf (exec (.textTilt 120) base)).map (·.srvGoal.tilt) = some 90 := by decide
theorem test_textStart : (nextOf (exec .textStart base)).map (·.capEn) = some true := by decide
theorem test_textStop : (nextOf (exec .textStop armed)).map (·.capEn) = some false := by decide
/-- 95 K7: a tick while disarmed or paused is no step of the environment. -/
theorem test_tick_move_disarmed :
    refusalOf (step { base with sched := [.tick f1] }) = some .moveNotEnabled ∧
    refusalOf (step { armed with capPaused := true, sched := [.tick f1] }) = some .moveNotEnabled ∧
    (nextOf (step { armed with sched := [.tick f1] })).map (·.capWr) = some 1 := by decide
/-- An empty frame, a `Command` at a full queue and a second empty frame are logged in that order. -/
theorem test_hRx_order : (nextOf (exec .hRx { base with
      cmdq := [⟨none, none, none⟩], linkRxq := [[0x00, 0x02, 0x03, 0x01, 0x03, 0x01, 0x01, 0x00, 0x00]] })).map
    (fun t => (t.diag, t.gCmdDrop)) = some ([2, 6, 2], true) := by decide +kernel
/-- An integer operand has one form: no closing zero byte, no negative zero (log 7). -/
theorem test_int_operand :
    reads .operation [0x31, 0x00] (.reduceLag 0) = true ∧
    reads .operation [0x31, 0x01, 0x00, 0x01] (.reduceLag (-256)) = true ∧
    encode (.reduceLag (-256)) = [0x31, 0x01, 0x00, 0x01] ∧
    (decode 2 .operation [0x31, 0x01]).toOption = none ∧
    (decode 2 .operation [0x31, 0x00, 0x05, 0x00]).toOption = none := by decide
theorem test_fetch_word : (nextOf (step (State.reset.withFetchWord 8 0x62))).map
    (fun t => (t.inReset, t.sched)) = some (false, []) := by decide
theorem test_reset_exit : (nextOf (step State.reset)).map (·.inReset) = some false := by decide +kernel

/-! ### A state that satisfies both invariants -/

/-- The last `CopyTx` step is the next one. -/
def working : State := { copying with sched := [.processor true] }

theorem working_stepInv : StepInv working where
  cfgValid := by decide +kernel
  memWf := by decide +kernel
  bufBound b := by
    fin_cases b
    · show ∀ e ∈ [(0, f1), (1, f2)], e.1 < 2; decide
    · show ∀ e ∈ ([] : Store Frame), e.1 < 2; decide
  rawBound := by show ∀ e ∈ [(0, f1)], e.1 < 2; decide
  chBound c := by fin_cases c <;> (show ∀ e ∈ ([] : Store Sample), e.1 < 2; decide)
  corrBound := by show ∀ e ∈ ([] : Store Acc), e.1 < 3; decide
  wrBound := by decide
  doaIBound := by decide
  rxBound := by decide
  goalInTravel a := by cases a <;> exact ⟨by decide, by decide⟩
  curInTravel a := by cases a <;> exact ⟨by decide, by decide⟩
  pulseOfCur a := by cases a <;> rfl
  table := rfl
  bearingBound a := by cases a <;> decide
  replyCap := by decide
  samplesCap := by decide
  cmdCap := by decide
  replyKind := by decide
  samplesKind := by decide

theorem working_runInv : RunInv working where
  toStepInv := working_stepInv
  noInvoke l bs := by simp [working]
  batchPending := by decide
  activeWritten := fun i h => absurd h (Nat.not_lt_zero i)
  readyWritten := fun _ => by show ∀ i, i < 2 → _; decide
  newestWritten h := absurd h (by decide)
  srcWritten := fun _ => by show ∀ i, i < 2 → _; decide
  indexInside := fun _ => by decide
  copyChannel := by decide
  rawWritten := fun _ => by show ∀ i, i < 1 → _; decide
  chWritten h := absurd h (by decide)
  chDone h := absurd h (by decide)
  chAll h := absurd h (by decide)
  txcBusy := by decide
  ownership := fun _ _ => by decide
  newestReady := by decide
  pauseNoOverrun := by decide
  pauseHeld := by decide
  pauseNoBatch := by decide
  pauseOneRun := by decide
  pauseOut h := absurd h (by decide)


/-- The same state, with the link's completion as its next turn. -/
def workingDrain : State := { working with sched := [.drain] }

theorem workingDrain_runInv : RunInv workingDrain :=
  { working_runInv with noInvoke := fun l bs => by simp [workingDrain] }

/-- The same state, stopped, with a tick as its next turn. -/
def workingTick : State := { working with capEn := false, sched := [.tick f1] }

theorem workingTick_runInv : RunInv workingTick :=
  { working_runInv with noInvoke := fun l bs => by simp [workingTick] }

/-! ### Every statement with hypotheses has a case -/

theorem witness_StartSamplingArms : base.capEn = false ∧ armed.capEn = true := by decide
theorem witness_StopAndReleaseClear : base.capEn = false ∧ base.capOut = false := by decide
/-- With room: the first and the last place of the buffer; full; not enabled, for each cause. -/
theorem witness_TickWritesOneFrame :
    (armed.capEn = true ∧ armed.capPaused = false ∧ armed.capWr = 0 ∧
      ({ armed with capWr := 1 } : State).capWr < armed.cfg.signalLen) ∧
    full.cfg.signalLen ≤ full.capWr ∧ base.capEn = false ∧
    ({ armed with capPaused := true } : State).capPaused = true := by decide
theorem witness_NewestBatchSwaps :
    full.capWr = full.cfg.signalLen ∧ base.capWr ≠ base.cfg.signalLen := by decide
theorem witness_FromBatchRemovesMean :
    batchValue base (.values [f1, f2]) = some [f1, f2] ∧
    batchValue full (.buffer 0) = some [f1, f2] ∧ 1 ≤ full.cfg.signalLen ∧
    full.cfg.signalLen ≤ 2 ^ 31 := by decide
theorem witness_XcorrRealIsExact :
    seriesValue channels (.values [1, 2]) = some [1, 2] ∧
    seriesValue channels (.channel 3) = some [0, 3] ∧ channels.cfg.signalLen ≤ 2 ^ 31 ∧
    1 ≤ channels.cfg.xcorrLen := by decide
theorem witness_CorrCentreIsDotProduct :
    seriesValue channels (.channel 0) = some [1, 2] ∧ seriesValue channels (.channel 1) = some [2, 1] ∧
    1 ≤ channels.cfg.xcorrLen ∧ channels.cfg.signalLen ≤ 2 ^ 31 := by decide
theorem witness_CalcLagIsFirstMaximum :
    seriesValue channels (.channel 0) = some [1, 2] ∧ seriesValue channels (.channel 1) = some [2, 1] ∧
    configValid channels.cfg = true := by decide
/-- An entry, and an index inside a table of length 9. -/
theorem witness_GenLagTableEntries : 0 < base.cfg.k ∧ 8 < base.cfg.k := by decide
theorem witness_LagTableOfValidConfig : configValid Config.default = true ∧
    (genLagTable Config.default)[0]? = some 145 ∧ (genLagTable Config.default)[8]? = some 36 := by
  decide +kernel
/-- K = 9: the last lag inside the window and the first outside it, on both sides. -/
theorem witness_ReduceLagFolds : 3 ≤ base.cfg.k ∧ ((base.cfg.k / 2 : Nat) : Int) = 4 ∧
    foldLag 9 4 = 4 ∧ foldLag 9 5 = -3 ∧ foldLag 9 (-4) = -4 ∧ foldLag 9 (-5) = 3 := by decide
/-- Both ends of the window, and the lags next to them. -/
theorem witness_LagToAngleReadsTable :
    base.lagTab[((-4 : Int) + ((base.cfg.k / 2 : Nat) : Int)).toNat]? = some 145 ∧
    base.lagTab[((4 : Int) + ((base.cfg.k / 2 : Nat) : Int)).toNat]? = some 36 ∧
    (-5 : Int) < -((base.cfg.k / 2 : Nat) : Int) ∧
    ((base.cfg.k / 2 : Nat) : Int) < (5 : Int) ∧ base.lagTab = genLagTable base.cfg := by
  decide +kernel
theorem witness_CalcAngleComposes : ∃ (u v w : State) (lag lag' : Int),
    nextOf (exec (.calcLag (.channel 0) (.channel 1)) channels) = some u ∧ u.ret = .lag lag ∧
    nextOf (exec (.reduceLag lag) u) = some v ∧ v.ret = .lag lag' ∧
    nextOf (exec (.lagToAngle lag') v) = some w ∧ channels.lagTab = genLagTable channels.cfg :=
  ⟨_, _, _, -1, -1, rfl, by decide, rfl, by decide, rfl, by decide +kernel⟩
/-- The ends of the range of a bearing, and 90. -/
theorem witness_AddGoalOffsetFromCurrent :
    (0 : Byte).toNat ≤ 180 ∧ (180 : Byte).toNat ≤ 180 ∧ (90 : Byte).toNat ≤ 180 ∧
    0 ≤ (base.srvCur.get .pan).toInt ∧
    (base.srvCur.get .pan).toInt ≤ (base.cfg.servoMax.get .pan).toInt := by decide
theorem witness_StepMovesOneDegree :
    base.srvPulse.get .pan = degToPulse base.cfg .pan (base.srvCur.get .pan).toInt ∧
    base.srvCur.get .pan = base.srvGoal.get .pan ∧
    ((base.srvCur.get .pan).toInt - (base.srvGoal.get .pan).toInt).natAbs ≤ 0 := by decide
theorem witness_DegToPulseIsAffine : 1 ≤ (base.cfg.servoMax.get .pan).toInt ∧
    1 ≤ (base.cfg.servoMax.get .tilt).toInt := by decide
theorem witness_SerializeLayouts : [f1, f2].length = base.cfg.signalLen ∧ [f1, f2][1]? = some f2 := by
  decide
theorem witness_SerializeCommandLayout :
    (⟨some 30, none, some true⟩ : Command).panDegrees = some 30 ∧
    (⟨some 30, none, some true⟩ : Command).tiltDegrees = none ∧
    (⟨none, some 30, some false⟩ : Command).samplingEnabled = some false := by decide
theorem witness_EncodeFrameIsStuffedPayload :
    Message.wellFormed base.cfg.signalLen (.samples [f1, f2]) = true := by decide
theorem witness_MessagesSurviveTheWire :
    Message.wellFormed base.cfg.signalLen (.samples [f1, f2]) = true ∧
    Message.wellFormed 2 .sync = true ∧
    (deserialize 2 [0x00]).toOption = some .sync := by decide
/-- The shortest and the longest Command, one byte less and one byte more. -/
theorem witness_DeserializeErrorsExactlyOnIllegal :
    legalPayload base.cfg.signalLen [0x03, 0, 0, 0] = true ∧
    legalPayload base.cfg.signalLen [0x03, 1, 9, 9, 9, 9, 1, 9, 9, 9, 9, 1, 1] = true ∧
    legalPayload base.cfg.signalLen [0x03, 0, 0] = false ∧
    legalPayload base.cfg.signalLen [0x03, 1, 9, 9, 9, 9, 1, 9, 9, 9, 9, 1, 1, 0] = false := by decide
/-- Blocks of 0, 253 and 254 bytes. -/
theorem witness_StuffFollowsItsBlocks :
    (∀ v ∈ List.replicate 254 (0x01 : Byte), v ≠ 0x00) ∧
    (List.replicate 254 (0x01 : Byte)).length = 254 ∧
    (∀ v ∈ List.replicate 253 (0x01 : Byte), v ≠ 0x00) ∧
    (List.replicate 253 (0x01 : Byte)).length < 254 ∧ ([] : List Byte).length < 254 :=
  ⟨fun _ h => (List.eq_of_mem_replicate h) ▸ by decide, List.length_replicate,
    fun _ h => (List.eq_of_mem_replicate h) ▸ by decide,
    by rw [List.length_replicate]; decide, by decide⟩
/-- A block too long by one byte, one that ends the body, one that does not. -/
theorem witness_UnstuffFollowsItsBlocks :
    unstuffBytes [0x03, 0x11, 0x22] = some [0x11, 0x22] ∧ unstuffBytes [0x04, 0x11, 0x22] = none ∧
    [0x11, 0x22].length < (0x04 : Byte).toNat - 1 ∧ [0x11, 0x22].length = (0x03 : Byte).toNat - 1 ∧
    (0x02 : Byte).toNat - 1 < [0x11, 0x22].length := by decide
/-- A frame that exactly fills `N_RX` and one byte more; the same without a delimiter. -/
theorem witness_FeedCases :
    rxFill base ≤ base.cfg.nRx ∧ rxFill base + (List.replicate 15 (0x01 : Byte)).length + 1 ≤ base.cfg.nRx ∧
    base.cfg.nRx < rxFill base + (List.replicate 16 (0x01 : Byte)).length + 1 ∧
    rxFill base + (List.replicate 16 (0x01 : Byte)).length ≤ base.cfg.nRx ∧
    base.cfg.nRx < rxFill base + (List.replicate 17 (0x01 : Byte)).length ∧
    unstuffBytes (base.rxAcc ++ [0x01, 0x01]) = some [0x00] ∧
    (deserialize base.cfg.signalLen [0x00]).toOption = some .sync ∧
    unstuffBytes (base.rxAcc ++ [0x05]) = none ∧ unstuffBytes (base.rxAcc ++ [0x02, 0x04]) = some [0x04] ∧
    (deserialize base.cfg.signalLen [0x04]).toOption = none := by decide
theorem witness_FeedAllIsTheLoop : 1 ≤ Config.default.nRx ∧
    (feedStep Config.default [] [0x01]).result = .needMore ∧
    (feedStep Config.default [] [0x00]).result ≠ .needMore := by decide
theorem witness_FrameDeliveredOnceInAnyChunks :
    Message.wellFormed Config.default.signalLen (.command ⟨some 256, some 0, some true⟩) = true ∧
    (frameOf (.command ⟨some 256, some 0, some true⟩)).length ≤ Config.default.nRx ∧
    [[0x01], [], [0x01, 0x00]].flatten = frameOf .sync ∧
    ∀ v ∈ ([[0x01], [0x02]] : List (List Byte)).flatten, v ≠ 0x00 := by decide
theorem witness_SendIsSingleFlight : [0x01, 0x01, 0x00].getLast? = some (0x00 : Byte) ∧
    base.txBusy = false ∧ sending.txBusy = true ∧
    (nextOf (exec .hTxComplete sending)).map (·.txBusy) = some false := by decide
/-- The last free place and no place, in both queues. -/
theorem witness_EnqueueDropsWhenFull :
    base.txqS.length < base.cfg.txqSamplesCap ∧ base.txqR.length < base.cfg.txqReplyCap ∧
    base.cfg.txqReplyCap ≤ ({ base with txqR := [.sync] } : State).txqR.length ∧
    base.cfg.txqSamplesCap ≤ ({ base with txqS := [.samples [f1, f2]] } : State).txqS.length := by decide
theorem witness_ReceiveHandlerFeedsOneChunk :
    tie.linkRxq = [0x02, 0x03, 0x01] :: [] ∧ tie.cmdq.length ≤ tie.cfg.cmdqCap := by decide
theorem witness_TransmitCompleteClears : (tie.pendTxc = true → tie.txBusy = true) ∧
    (nextOf (drainLink sending)).map (fun t => (t.pendTxc, t.txBusy)) = some (true, true) := by decide
theorem witness_CaptureCompleteHandsOver :
    full.capWr = full.cfg.signalLen ∧ base.capWr ≠ base.cfg.signalLen := by decide
theorem witness_LevelTwoHandlersCommute :
    tie.inReset = false ∧ tie.sched = [] ∧ tie.pendBatch = false ∧ tie.pendTxc = true ∧
    tie.linkRxq ≠ [] := by decide
theorem witness_DoaStartStep : handed.doaPhase = .idle ∧ copying.doaPhase ≠ .idle ∧
    (nextOf (exec .tDoa copying)).isSome = true := by decide
/-- The first frame, and the last. -/
theorem witness_DoaCopyStep :
    copying.doaPhase = .copyTx ∧ copying.mem.readFrame copying.doaSrc 0 = some f1 ∧
    (0 : Nat) + 1 ≠ copying.cfg.signalLen ∧
    copying.mem.readFrame copying.doaSrc copying.doaI = some f2 ∧
    copying.doaI + 1 = copying.cfg.signalLen ∧ [f1, f2].length = copying.cfg.signalLen ∧
    [f1, f2][copying.doaI]? = some f2 ∧ Store.read copying.mem.raw 0 = [f1, f2][0]? := by decide
/-- The first sample of a channel, and the last. -/
theorem witness_DoaDemuxStep :
    demuxing.doaPhase = .demux ∧
    demuxing.mem.readSample demuxing.doaSrc demuxing.doaI demuxing.doaC = some 5 ∧
    demuxing.doaI + 1 ≠ demuxing.cfg.signalLen ∧
    demuxing.mem.readSample demuxing.doaSrc 1 3 = some 4 ∧ 1 + 1 = demuxing.cfg.signalLen ∧
    ([8, 4] : List Sample)[1]? = some 4 ∧
    Store.read ({ full.mem with ch := ⟨[], [], [], [(0, 8)]⟩ } : Memory).ch.s3 0 =
      ([8, 4] : List Sample)[0]? := by decide
theorem witness_DoaComputeStep :
    ({ channels with doaPhase := .compute } : State).doaPhase = .compute ∧
    configValid channels.cfg = true ∧ channels.lagTab = genLagTable channels.cfg ∧
    ∀ c i, i < channels.cfg.signalLen → (Store.read (channels.mem.ch.get c) i).isSome = true := by
  decide +kernel
theorem witness_DoaDemuxPhaseIsFromBatch :
    demuxing.inReset = false ∧ demuxing.sched = [] ∧ demuxing.pendBatch = false ∧
    demuxing.pendTxc = false ∧ demuxing.linkRxq = [] ∧ demuxing.doaPhase = .demux ∧
    demuxing.doaI = 0 ∧ demuxing.doaC = 0 ∧ demuxing.dmxSum = 0 ∧ 1 ≤ demuxing.cfg.signalLen ∧
    Store.readAll (demuxing.mem.buf demuxing.doaSrc) demuxing.cfg.signalLen = some [f1, f2] := by decide
theorem witness_DoaRunTakesItsSteps :
    handed.inReset = false ∧ handed.sched = [] ∧ handed.pendBatch = false ∧ handed.pendTxc = false ∧
    handed.linkRxq = [] ∧ handed.doaPhase = .idle ∧ handed.pendDoa = true ∧
    configValid handed.cfg = true ∧ handed.lagTab = genLagTable handed.cfg ∧
    ∀ i, i < handed.cfg.signalLen →
      (Store.read (handed.mem.buf handed.doaNewest) i).isSome = true := by decide +kernel
theorem witness_CommandTaskApplies : ({ base with cmdq := [⟨none, none, none⟩] } : State).cmdq =
    ⟨none, none, none⟩ :: [] := by decide
theorem witness_MessagesAtTheDevice : [f1, f2].length = base.cfg.signalLen := by decide
theorem witness_TransmitTaskSendsReplyFirst :
    base.txBusy = false ∧ ({ base with txqR := [.sync] } : State).txqR = .sync :: [] ∧
    base.txqR = [] ∧
    ({ base with txqS := [.samples [f1, f2]] } : State).txqS = .samples [f1, f2] :: [] := by decide
theorem witness_NothingToTakeChangesNothing :
    base.linkRxq = [] ∧ base.cmdq = [] ∧ sending.txBusy = true ∧ base.txqR = [] ∧ base.txqS = [] := by
  decide
/-- In a state that satisfies the invariant: a refusal, faults and an ill-formed operand occur. -/
theorem witness_StopsAreTheNamedOnes :
    StepInv working ∧ refusalOf (exec (.lagToAngle 5) working) = some .lagOutsideWindow ∧
    faultOf (exec (.fromBatch (.buffer 1)) working) = some (.noValue .buf) ∧
    faultOf (exec (.xcorrReal (.channel 0) (.channel 1)) working) = some (.noValue .ch) ∧
    faultOf (exec (.calcLag (.values [1, 2]) (.channel 0)) working) = some (.noValue .ch) ∧
    faultOf (exec (.calcAngle (.channel 3) (.values [1, 2])) working) = some (.noValue .ch) ∧
    Instr.wellFormed working.cfg.signalLen (.samples []) = false :=
  ⟨working_stepInv, by decide⟩
theorem witness_EnvironmentMoves :
    ({ sending with sched := [.drain] } : State).inReset = false ∧
    ({ sending with sched := [.drain] } : State).sched = .drain :: [] ∧ sending.txBusy = true ∧
    sending.pendTxc = false ∧ base.txBusy = false ∧
    ({ armed with sched := [.tick f1] } : State).sched = .tick f1 :: [] ∧ armed.inReset = false ∧
    armed.capEn = true ∧ armed.capPaused = false ∧ base.capEn = false := by decide
theorem witness_StepRunsTheDecodedInstruction :
    ({ base with sched := [.invoke .operation [0x58]] } : State).sched =
      .invoke .operation [0x58] :: [] ∧
    (decode base.cfg.signalLen .operation [0x58]).toOption = some .sendSync ∧
    (decode base.cfg.signalLen (tableWordLayer 8 0x62)
      (tableWordBytes base.cfg.signalLen 8 0x62)).toOption = some .hTxComplete := by decide
/-- A level runnable with none above it, for the first and the last level; none runnable; a tie. -/
theorem witness_ProcessorServesSmallestLevel :
    ({ base with sched := [.processor true] } : State).sched = .processor true :: [] ∧
    runnable full .l1 = true ∧ runnable tie .l2 = true ∧ runnable handed .l3 = true ∧
    ({ base with txqR := [.sync] } : State).txBusy = false ∧
    runnable { base with txqR := [.sync] } .l6 = true ∧
    runnable { base with txqR := [.sync] } .l5 = false ∧
    runnable base .l1 = false ∧ runnable base .l6 = false ∧ base.sched = [] := by decide
theorem witness_ResetStateAndExit :
    ({ base with sched := [.reset] } : State).sched = .reset :: [] ∧ State.reset.inReset = true ∧
    configValid State.reset.cfg = true := by decide
/-- A configuration at the bounds of the check, and one past a bound. -/
theorem witness_ConfigCheckConditions :
    configValid { Config.default with nRx := 15 } = true ∧
    configValid { Config.default with nRx := 14 } = false ∧
    configValid { Config.default with xcorrLen := 4 } = false := by decide
theorem witness_InvariantsHoldAtReset :
    configValid Config.default = true ∧ ∀ l bs, Move.invoke l bs ∉ [Move.servoTick] :=
  ⟨by decide, fun l bs => by simp⟩
theorem witness_EveryStepKeepsStepInv : StepInv working ∧ (nextOf (step working)).isSome = true :=
  ⟨working_stepInv, by decide +kernel⟩
theorem witness_EveryStepKeepsRunInv : RunInv working ∧ (nextOf (step working)).isSome = true :=
  ⟨working_runInv, by decide +kernel⟩
/-- Both cases: a next state, and the link's completion with nothing to complete. -/
theorem witness_RunsNeverFault :
    RunInv working ∧ (nextOf (step working)).isSome = true ∧
    RunInv workingDrain ∧ refusalOf (step workingDrain) = some .moveNotEnabled ∧
    RunInv workingTick ∧ refusalOf (step workingTick) = some .moveNotEnabled :=
  ⟨working_runInv, by decide +kernel, workingDrain_runInv, by decide +kernel, workingTick_runInv,
    by decide +kernel⟩
/-- Instructions that do change what the clauses name, and the two moves. -/
theorem witness_WritersOfTheSharedState :
    (nextOf (exec (.tick f1) { armed with capWr := 1 })).map (·.pendBatch) = some true ∧
    (nextOf (exec (.setGoal .pan 30) base)).map (fun t => t.srvGoal == base.srvGoal) = some false ∧
    (nextOf (exec (.fromBatch (.values [f1, f2])) base)).map (fun t => t.mem.ch == base.mem.ch) =
      some false ∧
    (nextOf (exec .hTxComplete tie)).map (·.pendTxc) = some false ∧
    (nextOf (step { sending with sched := [.drain] })).map (·.pendTxc) = some true ∧
    (nextOf (step { base with sched := [.servoTick] })).map (·.pendStick) = some true := by decide
theorem witness_DecodeOfEncode : Instr.wellFormed 2 (.fromBatch (.values [f1, f2])) = true ∧
    reads .operation (encode (.fromBatch (.values [f1, f2]))) (.fromBatch (.values [f1, f2])) = true := by
  decide
theorem witness_OutputsOnlyGrowAndGhostsStick :
    (nextOf (exec .tTransmit { base with gGap := true })).isSome = true ∧
    (nextOf (step { sending with sched := [.drain] })).isSome = true ∧ sending.inReset = false ∧
    ∀ rest, ({ sending with sched := [.drain] } : State).sched ≠ .reset :: rest :=
  ⟨by decide, by decide, by decide, fun rest => by simp⟩
theorem witness_GhostsAndDiagAreNeverRead : (nextOf (exec .hRx tie)).isSome = true := by decide
theorem witness_DecodeIsExact :
    (decode 2 .payload [0x03, 0x01, 0x1E, 0x00, 0x00, 0x00, 0x00, 0x00]).toOption =
      some (.command ⟨some 30, none, none⟩) := by decide

end Sys2Proof.Machine.Tests
end

section
/-! The instruction layer: for every operation that can stop, or that has cases, one lemma that says
once everything it can answer, and the turns a step can take. -/

namespace Sys2Proof.Machine

/-! ### Operations on operands -/

theorem execFromBatch_eq_next (b : BatchRef) (s t : State) : execFromBatch b s = .next t ↔
    ∃ batch, batchValue s b = some batch ∧ demuxBatch batch s = t := by
  simp [execFromBatch, withBatch_eq_next]

theorem execXcorrReal_eq_next (x y : SeriesRef) (s t : State) : execXcorrReal x y s = .next t ↔
    ∃ xs, seriesValue s x = some xs ∧ ∃ ys, seriesValue s y = some ys ∧ correlate xs ys s = t := by
  simp [execXcorrReal, withSeries_eq_next]

theorem execCalcLag_eq_next (x y : SeriesRef) (s t : State) : execCalcLag x y s = .next t ↔
    ∃ xs, seriesValue s x = some xs ∧ ∃ ys, seriesValue s y = some ys ∧
      returning (.lag (peakLag s.cfg xs ys)) (correlate xs ys s) = t := by
  simp [execCalcLag, withSeries_eq_next]

/-- `CALC_ANGLE` leaves what `XCORR_REAL` leaves, and a bearing in `ret`. -/
theorem execCalcAngle_next {x y : SeriesRef} {s t : State} (h : execCalcAngle x y s = .next t) :
    ∃ xs ys d, t = returning (.degree d) (correlate xs ys s) := by
  simp only [execCalcAngle, withSeries_eq_next, withAngle_eq_next] at h
  obtain ⟨xs, -, ys, -, -, d, -, h⟩ := h
  exact ⟨xs, ys, d, (Host.Outcome.next.inj h).symm⟩

theorem execAddGoalOffset_eq_next (a : Axis) (bearing : Byte) (s t : State) :
    execAddGoalOffset a bearing s = .next t ↔ bearing.toNat ≤ 180 ∧ addOffset a bearing s = t := by
  simp [execAddGoalOffset, ifWellFormed_eq_next]

theorem execSamples_next {batch : List Frame} {s t : State} (h : execSamples batch s = .next t) :
    t = s := by
  obtain ⟨-, h⟩ := (ifWellFormed_eq_next ..).mp h
  exact (Host.Outcome.next.inj h).symm

/-! ### Operations that only return a value -/

theorem execLagToAngle_next {lag : Int} {s t : State} (h : execLagToAngle lag s = .next t) :
    ∃ v, t = returning v s := by
  obtain ⟨-, d, -, h⟩ := (withAngle_eq_next ..).mp h
  exact ⟨_, (Host.Outcome.next.inj h).symm⟩

theorem execSerialize_next {m : Message} {s t : State} (h : execSerialize m s = .next t) :
    ∃ v, t = returning v s := by
  obtain ⟨-, h⟩ := (ifWellFormed_eq_next ..).mp h
  exact ⟨_, (Host.Outcome.next.inj h).symm⟩

theorem execEncodeFrame_next {m : Message} {s t : State} (h : execEncodeFrame m s = .next t) :
    ∃ v, t = returning v s := by
  obtain ⟨-, h⟩ := (ifWellFormed_eq_next ..).mp h
  exact ⟨_, (Host.Outcome.next.inj h).symm⟩

theorem execDeserialize_next {payload : List Byte} {s t : State}
    (h : execDeserialize payload s = .next t) : ∃ v, t = returning v s := by
  unfold execDeserialize at h
  split at h <;> exact ⟨_, (Host.Outcome.next.inj h).symm⟩

theorem execUnstuff_next {body : List Byte} {s t : State} (h : execUnstuff body s = .next t) :
    ∃ v, t = returning v s := by
  obtain ⟨-, h⟩ := (ifWellFormed_eq_next ..).mp h
  split at h <;> exact ⟨_, (Host.Outcome.next.inj h).symm⟩

/-! ### Transmission and queueing -/

theorem execSend_next {frame : List Byte} {s t : State} (h : execSend frame s = .next t) :
    (∃ v, t = returning v s) ∨ ∃ v, t = returning v (startTransmit frame s) := by
  obtain ⟨-, h⟩ := (ifWellFormed_eq_next ..).mp h
  split at h
  · exact .inl ⟨_, (Host.Outcome.next.inj h).symm⟩
  · exact .inr ⟨_, (Host.Outcome.next.inj h).symm⟩

theorem execEnqueueTx_eq_next (m : Message) (s t : State) : execEnqueueTx m s = .next t ↔
    m.wellFormed s.cfg.signalLen = true ∧ enqueueMessage m s = t := by
  simp [execEnqueueTx, ifWellFormed_eq_next]

/-- `T_TRANSMIT` takes the first reply, or else the first sample Message, or does nothing. -/
theorem execTTransmit_next {s t : State} (h : execTTransmit s = .next t) :
    t = s ∨
    (∃ m rest, s.txqR = m :: rest ∧ t = startTransmit (frameOf m) { s with txqR := rest }) ∨
    ∃ m rest, s.txqS = m :: rest ∧ t = startTransmit (frameOf m) { s with txqS := rest } := by
  unfold execTTransmit at h
  split at h
  · exact .inl (Host.Outcome.next.inj h).symm
  · split at h
    next m rest hq => exact .inr (.inl ⟨m, rest, hq, (Host.Outcome.next.inj h).symm⟩)
    next m rest _ hq => exact .inr (.inr ⟨m, rest, hq, (Host.Outcome.next.inj h).symm⟩)
    next => exact .inl (Host.Outcome.next.inj h).symm

/-! ### Handlers and tasks -/

/-- The hand-over of the full batch `BUF[CAP.ACTIVE]` to the DoA task (R253). -/
def handOver (s : State) : State :=
  { s with
    pendBatch := false
    gOverrun := s.gOverrun || s.capOut
    capActive := otherBuffer s.capActive
    capWr := 0
    capRdyV := true
    capOut := true
    capPaused := s.cfg.pauseForDoa || s.capPaused
    doaNewest := s.capActive
    pendDoa := true }

theorem execHCaptureComplete_eq (s : State) : execHCaptureComplete s =
    if s.capWr = s.cfg.signalLen then .next (handOver s) else .next { s with pendBatch := false } := by
  unfold execHCaptureComplete
  rcases newestBatch_cases { s with pendBatch := false } with ⟨hw, e⟩ | ⟨hw, e⟩
  · rw [if_pos hw]; simp only [e]; rfl
  · rw [if_neg hw]; simp only [e]

theorem execHCaptureComplete_next {s t : State} (h : execHCaptureComplete s = .next t) :
    t = { s with pendBatch := false } ∨ (s.capWr = s.cfg.signalLen ∧ t = handOver s) := by
  rw [execHCaptureComplete_eq] at h
  split at h
  · exact .inr ⟨‹_›, (Host.Outcome.next.inj h).symm⟩
  · exact .inl (Host.Outcome.next.inj h).symm

theorem execHRx_next {s t : State} (h : execHRx s = .next t) :
    t = s ∨ ∃ chunk rest, s.linkRxq = chunk :: rest ∧
      t = feedChunk chunk { s with linkRxq := rest } := by
  unfold execHRx at h
  split at h
  next => exact .inl (Host.Outcome.next.inj h).symm
  next chunk rest hq => exact .inr ⟨chunk, rest, hq, (Host.Outcome.next.inj h).symm⟩

theorem execTCommand_next {s t : State} (h : execTCommand s = .next t) :
    t = s ∨ ∃ c rest, s.cmdq = c :: rest ∧ t = applyCommand c { s with cmdq := rest } := by
  unfold execTCommand at h
  split at h
  next => exact .inl (Host.Outcome.next.inj h).symm
  next c rest hq => exact .inr ⟨c, rest, hq, (Host.Outcome.next.inj h).symm⟩

/-! ### The DoA task -/

/-- One frame copied to `RAW` (R255). -/
def frameCopied (f : Frame) (s : State) : State :=
  { s with mem := s.mem.writeRaw s.doaI f, doaI := s.doaI + 1 }

/-- `Samples(RAW)` queued, the `Demux` phase begun (R255). -/
def rawQueued (batch : List Frame) (s : State) : State :=
  { enqueueMessage (.samples batch) s with doaI := 0, doaPhase := .demux }

/-- One sample demultiplexed and added to the sum (R256). -/
def sampleTaken (v : Sample) (s : State) : State :=
  { s with
    mem := s.mem.writeCh s.doaC s.doaI v
    dmxSum := s.dmxSum + v.signExtend 64
    doaI := s.doaI + 1 }

/-- The mean taken off a whole channel, the sum and the index cleared (R256). -/
def meanRemoved (xs : List Sample) (s : State) : State :=
  { s with
    mem := s.mem.setCh s.doaC (xs.map (removeMean (dcMean s.cfg.signalLen s.dmxSum)))
    dmxSum := 0
    doaI := 0 }

/-- After a channel: the next one, or the release and the `Compute` phase (R256). -/
def channelEnded (s : State) : State :=
  if s.doaC = 3 then { releaseReference s with doaPhase := .compute }
  else { s with doaC := s.doaC + 1 }

/-- The results of one axis of the `Compute` step (R257). -/
def axisComputed (a : Axis) (xs ys : List Sample) (bearing : Byte) (s : State) : State :=
  addOffset a bearing
    { correlate xs ys s with
      doaLag := s.doaLag.set a (BitVec.ofInt 32 (peakLag s.cfg xs ys))
      doaBearing := s.doaBearing.set a bearing }

theorem doaCopy_next {s t : State} (h : doaCopy s = .next t) :
    ∃ f, s.mem.readFrame s.doaSrc s.doaI = some f ∧
      (t = frameCopied f s ∨ ∃ batch, batch.length = s.cfg.signalLen ∧
        t = rawQueued batch (frameCopied f s)) := by
  obtain ⟨f, hf, h⟩ := (orNoValue_eq_next ..).mp h
  refine ⟨f, hf, ?_⟩
  simp only at h
  split at h
  · obtain ⟨batch, hb, h⟩ := (orNoValue_eq_next ..).mp h
    exact .inr ⟨batch, ((Store.readAll_eq_some ..).mp hb).1, (Host.Outcome.next.inj h).symm⟩
  · exact .inl (Host.Outcome.next.inj h).symm

theorem doaEndChannel_next {s t : State} (h : doaEndChannel s = .next t) :
    ∃ xs, xs.length = s.cfg.signalLen ∧ t = channelEnded (meanRemoved xs s) := by
  obtain ⟨xs, hx, h⟩ := (orNoValue_eq_next ..).mp h
  refine ⟨xs, ((Store.readAll_eq_some ..).mp hx).1, ?_⟩
  unfold channelEnded
  simp only at h
  split at h
  · rw [if_pos ‹_›]; exact (Host.Outcome.next.inj h).symm
  · rw [if_neg ‹_›]; exact (Host.Outcome.next.inj h).symm

theorem doaDemux_next {s t : State} (h : doaDemux s = .next t) :
    ∃ v, s.mem.readSample s.doaSrc s.doaI s.doaC = some v ∧
      (t = sampleTaken v s ∨ ∃ xs, xs.length = s.cfg.signalLen ∧
        t = channelEnded (meanRemoved xs (sampleTaken v s))) := by
  obtain ⟨v, hv, h⟩ := (orNoValue_eq_next ..).mp h
  refine ⟨v, hv, ?_⟩
  simp only at h
  split at h
  · exact .inr (doaEndChannel_next (s := sampleTaken v s) h)
  · exact .inl (Host.Outcome.next.inj h).symm

theorem doaAxis_next {a : Axis} {s t : State} (h : doaAxis a s = .next t) :
    ∃ (xs ys : List Sample) (j : Nat) (d : Byte), s.lagTab[j]? = some d ∧
      t = axisComputed a xs ys d s := by
  simp only [doaAxis, withSeries_eq_next, withAngle_eq_next] at h
  obtain ⟨xs, -, ys, -, -, d, hd, h⟩ := h
  exact ⟨xs, ys, _, d, hd, (Host.Outcome.next.inj h).symm⟩

theorem doaCompute_next {s t : State} (h : doaCompute s = .next t) :
    ∃ u v, doaAxis .pan s = .next u ∧ doaAxis .tilt u = .next v ∧
      t = { v with capPaused := false, doaPhase := .idle } := by
  obtain ⟨u, hu, h⟩ := (thenDo_eq_next ..).mp h
  obtain ⟨v, hv, h⟩ := (thenDo_eq_next ..).mp h
  exact ⟨u, v, hu, hv, (Host.Outcome.next.inj h).symm⟩

theorem execTDoa_cases (s : State) :
    execTDoa s = .next (doaStart s) ∨ execTDoa s = doaCopy s ∨ execTDoa s = doaDemux s ∨
      execTDoa s = doaCompute s := by
  unfold execTDoa
  cases s.doaPhase with
  | idle => exact .inl rfl
  | copyTx => exact .inr (.inl rfl)
  | demux => exact .inr (.inr (.inl rfl))
  | compute => exact .inr (.inr (.inr rfl))

/-! ### The turns of a step -/

/-- A step of the processor agent is one instruction, or it waits. -/
theorem processorStep_instr (tx : Bool) (s : State) :
    (∃ i, processorStep tx s = exec i s) ∨ processorStep tx s = .next s := by
  rcases processorStep_cases tx s with ⟨-, e⟩ | ⟨-, -, e⟩ | ⟨-, -, -, -, e⟩ | ⟨-, -, -, -, -, -, e⟩ |
    ⟨-, -, -, -, -, -, -, e⟩ | ⟨-, -, -, -, -, -, -, -, e⟩ | ⟨-, -, -, -, -, -, -, -, e⟩
  · exact .inl ⟨.hCaptureComplete, e⟩
  · rcases level2Step_cases tx s with ⟨-, e'⟩ | e'
    · exact .inl ⟨.hTxComplete, e.trans e'⟩
    · exact .inl ⟨.hRx, e.trans e'⟩
  · exact .inl ⟨.tDoa, e⟩
  · exact .inl ⟨.tCommand, e⟩
  · exact .inl ⟨.tServoTick, e⟩
  · exact .inl ⟨.tTransmit, e⟩
  · exact .inr e

/-- What the turn at the head of a schedule makes of a state `u`; `turn` is `none` for the processor
agent's unscheduled turn. -/
inductive TurnTaken (turn : Option Move) (u t : State) : Prop where
  | instruction (i : Instr) (h : exec i u = .next t)
  | waited (h : t = u)
  | delivered (chunk : List Byte) (h : t = deliverChunk chunk u)
  | drained (hm : turn = some .drain)
      (h : t = { u with linkTx := u.linkTx ++ u.txBuf, pendTxc := true })
  | ticked (hm : turn = some .servoTick) (h : t = pendServoTick u)
  | wasReset (hm : turn = some .reset) (h : t = enterReset u)
  | rejected (h : t = diagnose .deserError u)

theorem processorStep_taken {tx : Bool} {turn : Option Move} {u t : State}
    (h : processorStep tx u = .next t) : TurnTaken turn u t := by
  rcases processorStep_instr tx u with ⟨i, e⟩ | e
  · exact .instruction i (e ▸ h)
  · exact .waited (Host.Outcome.next.inj (e ▸ h)).symm

theorem runInvocation_taken {l : Layer} {bs : List Byte} {turn : Option Move} {u t : State}
    (h : runInvocation l bs u = .next t) : TurnTaken turn u t := by
  unfold runInvocation at h
  split at h
  next i _ => exact .instruction i h
  next =>
    cases l with
    | payload => exact .rejected (Host.Outcome.next.inj h).symm
    | operation => cases h
    | text => cases h

theorem runTurn_taken {m : Move} {u t : State} (h : runTurn m u = .next t) :
    TurnTaken (some m) u t := by
  cases m with
  | tick f =>
    obtain ⟨hen, hp, e⟩ := (tickMove_eq_next f u t).mp h
    exact .instruction (.tick f) (by simp [exec, execTick, tickEnabled, hen, hp, e])
  | deliver chunk => exact .delivered chunk (Host.Outcome.next.inj h).symm
  | drain =>
    obtain ⟨-, -, e⟩ := (drainLink_eq_next u t).mp h
    exact .drained rfl e.symm
  | servoTick => exact .ticked rfl (Host.Outcome.next.inj h).symm
  | hostSend c => exact .delivered _ (Host.Outcome.next.inj h).symm
  | hostReceive => exact .waited (Host.Outcome.next.inj h).symm
  | sendSync => exact .instruction .sendSync h
  | reset => exact .wasReset rfl (Host.Outcome.next.inj h).symm
  | processor tx => exact processorStep_taken h
  | invoke l bs => exact runInvocation_taken h

/-- A step out of reset takes the turn at the head of the schedule, from a state that differs in the
model's own schedule and draw count only. -/
theorem step_taken {s t : State} (hr : s.inReset = false) (h : step s = .next t) :
    ∃ rest draws, TurnTaken s.sched.head? { s with sched := rest, l2Draws := draws } t := by
  rcases step_cases s with ⟨hr', -⟩ | ⟨-, hs, e⟩ | ⟨m, rest, -, hs, e⟩
  · rw [hr] at hr'; cases hr'
  · rw [e] at h
    unfold unscheduledStep at h
    split at h
    · exact ⟨s.sched, s.l2Draws + 1, processorStep_taken h⟩
    · exact ⟨s.sched, s.l2Draws, processorStep_taken h⟩
  · rw [e] at h
    rw [hs]
    exact ⟨rest, s.l2Draws, runTurn_taken h⟩

theorem step_of_sched {s : State} {m : Move} {rest : List Move} (hr : s.inReset = false)
    (hs : s.sched = m :: rest) : step s = runTurn m { s with sched := rest } := by
  simp [step, hr, hs]

theorem step_of_inReset {s : State} (hr : s.inReset = true) (hc : configValid s.cfg = true) :
    step s = .next { enterReset s with inReset := false } := by
  simp [step, exitReset, hr, hc]

/-- The first step in reset, which a valid configuration lets through. -/
theorem step_exitReset {s t : State} (hr : s.inReset = true) (h : step s = .next t) :
    configValid s.cfg = true ∧ t = { enterReset s with inReset := false } := by
  rcases step_cases s with ⟨-, e⟩ | ⟨hr', -⟩ | ⟨m, rest, hr', -⟩
  · rw [e] at h
    unfold exitReset at h
    split at h
    · exact ⟨‹_›, (Host.Outcome.next.inj h).symm⟩
    · cases h
  · rw [hr] at hr'; cases hr'
  · rw [hr] at hr'; cases hr'

end Sys2Proof.Machine
end

section
/-! `StepInv`: it holds at reset, every update keeps it, so every instruction and every step keeps it
(O49, O51, O52). -/

namespace Sys2Proof.Machine

variable {s t : State}

/-! ### Reset (R49, R310 to R312) -/

theorem inTravel_servoInit {c : Config} (h : configValid c = true) (a : Axis) :
    inTravel c a (c.servoInit.get a) :=
  (configValid_axis h a).2

theorem Memory.buf_empty (b : Fin 2) : Memory.empty.buf b = [] := by
  match b with
  | 0 => rfl
  | 1 => rfl

theorem Memory.ch_empty (c : Fin 4) : Memory.empty.ch.get c = [] := by
  match c with
  | 0 => rfl
  | 1 => rfl
  | 2 => rfl
  | 3 => rfl

theorem readFrame_resetWith (c : Config) (moves : List Move) (draws : Nat) (b : Fin 2) (i : Nat) :
    (State.resetWith c moves draws).mem.readFrame b i = none := by
  show Store.read (Memory.empty.buf b) i = none
  rw [Memory.buf_empty, Store.read_nil]

theorem readCh_resetWith (c : Config) (moves : List Move) (draws : Nat) (ch : Fin 4) (i : Nat) :
    Store.read ((State.resetWith c moves draws).mem.ch.get ch) i = none := by
  show Store.read (Memory.empty.ch.get ch) i = none
  rw [Memory.ch_empty, Store.read_nil]

/-- Both servos rest at their start angle, with its pulse. -/
theorem servo_resetWith (c : Config) (moves : List Move) (draws : Nat) (a : Axis) :
    (State.resetWith c moves draws).srvGoal.get a = c.servoInit.get a ∧
      (State.resetWith c moves draws).srvCur.get a = c.servoInit.get a ∧
      (State.resetWith c moves draws).srvPulse.get a =
        degToPulse c a (c.servoInit.get a).toInt := by
  cases a with
  | pan => exact ⟨rfl, rfl, rfl⟩
  | tilt => exact ⟨rfl, rfl, rfl⟩

theorem indexedBelow_nil {α : Type} (n : Nat) : indexedBelow n ([] : Store α) :=
  fun _ he => nomatch he

theorem stepInv_resetWith {c : Config} (h : configValid c = true) (moves : List Move) (draws : Nat) :
    StepInv (State.resetWith c moves draws) where
  cfgValid := h
  memWf := Memory.empty_wf
  bufBound b := (Memory.buf_empty b).symm ▸ indexedBelow_nil _
  rawBound := indexedBelow_nil _
  chBound ch := (Memory.ch_empty ch).symm ▸ indexedBelow_nil _
  corrBound := indexedBelow_nil _
  wrBound := Nat.zero_le _
  doaIBound := Nat.zero_le _
  rxBound := Nat.zero_le _
  goalInTravel := inTravel_servoInit h
  curInTravel := inTravel_servoInit h
  pulseOfCur a := (servo_resetWith c moves draws a).2.2
  table := rfl
  bearingBound a := by cases a <;> exact Nat.zero_le _
  replyCap := Nat.zero_le _
  samplesCap := Nat.zero_le _
  cmdCap := Nat.zero_le _
  replyKind _ hm := nomatch hm
  samplesKind _ hm := nomatch hm

theorem not_readingBatch_resetWith (c : Config) (moves : List Move) (draws : Nat) :
    ¬ readingBatch (State.resetWith c moves draws) := by
  rintro (h | h) <;> cases h

/-- With no phase, no event and no batch pending, what `RunInv` adds is void, save the schedule. -/
theorem runInv_resetWith {c : Config} {moves : List Move} (h : configValid c = true)
    (hm : ∀ l bs, Move.invoke l bs ∉ moves) (draws : Nat) :
    RunInv (State.resetWith c moves draws) where
  toStepInv := stepInv_resetWith h moves draws
  noInvoke := hm
  batchPending hp := nomatch hp
  activeWritten _ hi := absurd hi (Nat.not_lt_zero _)
  readyWritten hp := nomatch hp
  newestWritten hp := nomatch hp
  srcWritten hp := absurd hp (not_readingBatch_resetWith c moves draws)
  indexInside hp := absurd hp (not_readingBatch_resetWith c moves draws)
  copyChannel hp := nomatch hp
  rawWritten hp := nomatch hp
  chWritten hp := nomatch hp
  chDone hp := nomatch hp
  chAll hp := nomatch hp
  txcBusy hp := nomatch hp
  ownership _ hp := absurd hp (not_readingBatch_resetWith c moves draws)
  newestReady _ hp := nomatch hp
  pauseNoOverrun _ := rfl
  pauseHeld _ hp := hp.elim (fun h => nomatch h) (fun h => absurd rfl h)
  pauseNoBatch _ hp := nomatch hp
  pauseOneRun _ hp := absurd rfl hp
  pauseOut _ hp := nomatch hp

/-! ### Capture, channels, correlation -/

theorem StepInv.returning (h : StepInv s) (v : Returned) : StepInv (returning v s) := { h with }

theorem StepInv.startCapture (h : StepInv s) : StepInv (startCapture s) := by
  rcases startCapture_cases s with ⟨-, e⟩ | ⟨-, e⟩ <;> rw [e]
  · exact h
  · exact { h with wrBound := Nat.zero_le _ }

theorem StepInv.stopCapture (h : StepInv s) : StepInv (stopCapture s) := { h with }

/-- A frame goes to the place `CAP.WR` only while that is inside the batch (20_memory R66). -/
theorem StepInv.captureFrame (h : StepInv s) (f : Frame) : StepInv (captureFrame f s) := by
  rcases captureFrame_cases f s with ⟨hw, e⟩ | ⟨-, e⟩ <;> rw [e]
  · exact
      { h with
        memWf := Memory.wf_writeFrame h.memWf ..
        bufBound := fun b => by
          rw [Memory.buf_writeFrame]
          split
          · exact indexedBelow_write (h.bufBound _) hw f
          · exact h.bufBound b
        rawBound := by simpa using h.rawBound
        chBound := by simpa using h.chBound
        corrBound := by simpa using h.corrBound
        wrBound := hw }
  · exact { h with }

theorem StepInv.newestBatch (h : StepInv s) : StepInv (newestBatch s).2 := by
  rcases newestBatch_cases s with ⟨-, e⟩ | ⟨-, e⟩ <;> rw [e]
  · exact { h with wrBound := Nat.zero_le _ }
  · exact h

theorem StepInv.releaseReference (h : StepInv s) : StepInv (releaseReference s) := { h with }

/-- A memory change inside `CH` alone. -/
theorem StepInv.setCh (h : StepInv s) (c : Fin 4) {xs : List Sample}
    (hx : xs.length = s.cfg.signalLen) : StepInv { s with mem := s.mem.setCh c xs } :=
  { h with
    memWf := Memory.wf_setCh h.memWf ..
    bufBound := by simpa using h.bufBound
    chBound := fun d => by
      rw [Memory.ch_setCh, Channels.get_set]
      split
      · exact indexedBelow_ofList (Nat.le_of_eq hx)
      · exact h.chBound d }

theorem StepInv.demuxBatch (h : StepInv s) {batch : List Frame}
    (hb : batch.length = s.cfg.signalLen) : StepInv (demuxBatch batch s) := by
  have hl : ∀ c, (channelSeries s.cfg.signalLen batch c).length = s.cfg.signalLen := by simpa using hb
  have h4 := (((h.setCh 0 (hl 0)).setCh 1 (hl 1)).setCh 2 (hl 2)).setCh 3 (hl 3)
  exact { h4 with }

theorem StepInv.correlate (h : StepInv s) (xs ys : List Sample) : StepInv (correlate xs ys s) :=
  { h with
    memWf := Memory.wf_setCorr h.memWf _
    bufBound := by simpa [Machine.correlate] using h.bufBound
    corrBound := indexedBelow_ofList (by simp) }

theorem StepInv.genLagTable (h : StepInv s) : StepInv { s with lagTab := genLagTable s.cfg } :=
  { h with table := rfl }

/-! ### Servos -/

theorem inTravel_clampAngle {c : Config} (h : configValid c = true) (a : Axis) (v : Int) :
    inTravel c a (clampAngle c a v) := by
  have hmax : 0 ≤ (c.servoMax.get a).toInt := by have := (configValid_axis h a).1; omega
  rw [inTravel, toInt_clampAngle hmax]
  exact clamp_bounds _ _ _ hmax

/-- A step stays between the angle and the goal, so within the travel of both. -/
theorem inTravel_stepAngle {c : Config} {a : Axis} {cur goal : Angle} (hc : inTravel c a cur)
    (hg : inTravel c a goal) : inTravel c a (stepAngle cur goal) := by
  unfold inTravel at *
  rw [toInt_stepAngle]
  split
  · omega
  · split <;> omega

/-- What holds of every axis, and of a new value of one, holds after that value is set. -/
theorem PerAxis.forall_get_set {α : Type} {P : Axis → α → Prop} {p : PerAxis α} {a : Axis} {v : α}
    (h : ∀ b, P b (p.get b)) (hv : P a v) (b : Axis) : P b ((p.set a v).get b) := by
  rw [PerAxis.get_set]
  split
  next hb => exact hb ▸ hv
  next => exact h b

/-- A goal within the travel of its axis may be recorded. -/
theorem StepInv.setGoal (h : StepInv s) {a : Axis} {v : Angle} (hv : inTravel s.cfg a v) :
    StepInv { s with srvGoal := s.srvGoal.set a v } :=
  { h with goalInTravel := PerAxis.forall_get_set h.goalInTravel hv }

theorem StepInv.writeGoal (h : StepInv s) (a : Axis) (degrees : Angle) :
    StepInv (writeGoal a degrees s) :=
  h.setGoal (inTravel_clampAngle h.cfgValid a _)

theorem StepInv.addOffset (h : StepInv s) (a : Axis) (bearing : Byte) :
    StepInv (addOffset a bearing s) :=
  h.setGoal (inTravel_clampAngle h.cfgValid a _)

theorem StepInv.stepAxis (h : StepInv s) (a : Axis) : StepInv (stepAxis a s) :=
  { h with
    curInTravel := PerAxis.forall_get_set h.curInTravel
      (inTravel_stepAngle (h.curInTravel a) (h.goalInTravel a))
    pulseOfCur := fun b => by
      rw [stepAxis_srvCur, stepAxis_srvPulse, PerAxis.get_set, PerAxis.get_set]
      split
      next hb => subst hb; rfl
      next => exact h.pulseOfCur b }

/-! ### Queues and the accumulator -/

theorem StepInv.startTransmit (h : StepInv s) (frame : List Byte) :
    StepInv (startTransmit frame s) := { h with }

theorem StepInv.enqueueMessage (h : StepInv s) {m : Message}
    (hm : m.wellFormed s.cfg.signalLen = true) : StepInv (enqueueMessage m s) := by
  rcases enqueueMessage_cases m s with ⟨hk, hl, e⟩ | ⟨hk, hl, e⟩ | ⟨-, e⟩ <;> rw [e]
  · exact
      { h with
        samplesCap := by simpa using hl
        samplesKind := fun x hx => by
          rcases List.mem_append.mp hx with hx | hx
          · exact h.samplesKind x hx
          · rw [List.mem_singleton.mp hx]; exact ⟨hk, hm⟩ }
  · exact
      { h with
        replyCap := by simpa using hl
        replyKind := fun x hx => by
          rcases List.mem_append.mp hx with hx | hx
          · exact h.replyKind x hx
          · rw [List.mem_singleton.mp hx]; exact hk }
  · exact { h with }

theorem StepInv.deliverMessage (h : StepInv s) (m : Message) : StepInv (deliverMessage m s) := by
  rcases deliverMessage_cases m s with ⟨c, -, hl, e⟩ | ⟨c, -, -, e⟩ | ⟨-, e⟩ <;> rw [e]
  · exact { h with cmdCap := by simpa using hl }
  · exact { h with }
  · exact h

theorem StepInv.handleResult (h : StepInv s) (r : FeedResult) : StepInv (handleResult r s) := by
  rcases handleResult_cases r s with ⟨m, -, e⟩ | e | ⟨k, e⟩ <;> rw [e]
  · exact h.deliverMessage m
  · exact h
  · exact { h with }

theorem StepInv.feedChunk (h : StepInv s) (chunk : List Byte) : StepInv (feedChunk chunk s) :=
  feedChunk_induct s StepInv chunk
    { h with rxBound := feedRounds_acc_le _ _ _ _ h.rxBound }
    (fun r _ ht => ht.handleResult r)

theorem StepInv.execFeed (h : StepInv s) (input : List Byte) (hn : execFeed input s = .next t) :
    StepInv t := by
  obtain rfl := Host.Outcome.next.inj hn
  exact { h with rxBound := feedStep_acc_le _ _ _ h.rxBound }

/-! ### Handlers and tasks -/

theorem StepInv.whenPresent {α : Type} (h : StepInv s) (v : Option α) {act : α → State → State}
    (hact : ∀ x, StepInv (act x s)) : StepInv (whenPresent v act s) :=
  whenPresent_cases s StepInv v act h hact

theorem StepInv.applyCommand (h : StepInv s) (c : Command) : StepInv (applyCommand c s) := by
  have hpan := h.whenPresent c.panDegrees (h.writeGoal .pan)
  have htilt := hpan.whenPresent c.tiltDegrees (hpan.writeGoal .tilt)
  have hen := htilt.whenPresent c.samplingEnabled
    (act := fun en s => if en then Machine.startCapture s else Machine.stopCapture s)
    (fun en => by cases en <;> [exact htilt.stopCapture; exact htilt.startCapture])
  exact hen.enqueueMessage rfl

theorem StepInv.execHCaptureComplete (h : StepInv s) (hn : execHCaptureComplete s = .next t) :
    StepInv t := by
  rcases execHCaptureComplete_next hn with rfl | ⟨-, rfl⟩
  · exact { h with }
  · exact { h with wrBound := Nat.zero_le _ }

theorem StepInv.execHRx (h : StepInv s) (hn : execHRx s = .next t) : StepInv t := by
  rcases execHRx_next hn with rfl | ⟨chunk, rest, -, rfl⟩
  · exact h
  · have htaken : StepInv { s with linkRxq := rest } := { h with }
    exact htaken.feedChunk chunk

theorem StepInv.execTCommand (h : StepInv s) (hn : execTCommand s = .next t) : StepInv t := by
  rcases execTCommand_next hn with rfl | ⟨c, rest, hq, rfl⟩
  · exact h
  · have hcap := h.cmdCap
    rw [hq] at hcap
    have htaken : StepInv { s with cmdq := rest } := { h with cmdCap := Nat.le_of_succ_le hcap }
    exact htaken.applyCommand c

theorem StepInv.execTServoTick (h : StepInv s) (hn : execTServoTick s = .next t) : StepInv t := by
  obtain rfl := Host.Outcome.next.inj hn
  have h0 : StepInv { s with pendStick := false } := { h with }
  exact (h0.stepAxis .pan).stepAxis .tilt

/-- Taking the head of a queue leaves it within its capacity and of its kind. -/
theorem StepInv.execTTransmit (h : StepInv s) (hn : execTTransmit s = .next t) : StepInv t := by
  rcases execTTransmit_next hn with rfl | ⟨m, rest, hq, rfl⟩ | ⟨m, rest, hq, rfl⟩
  · exact h
  · have hcap := h.replyCap
    have hkind := h.replyKind
    rw [hq] at hcap hkind
    have htaken : StepInv { s with txqR := rest } :=
      { h with
        replyCap := Nat.le_of_succ_le hcap
        replyKind := fun x hx => hkind x (List.mem_cons_of_mem _ hx) }
    exact htaken.startTransmit _
  · have hcap := h.samplesCap
    have hkind := h.samplesKind
    rw [hq] at hcap hkind
    have htaken : StepInv { s with txqS := rest } :=
      { h with
        samplesCap := Nat.le_of_succ_le hcap
        samplesKind := fun x hx => hkind x (List.mem_cons_of_mem _ hx) }
    exact htaken.startTransmit _

/-! ### The DoA task -/

theorem StepInv.doaStart (h : StepInv s) : StepInv (doaStart s) := { h with doaIBound := Nat.zero_le _ }

/-- A frame that can be read stands inside the batch. -/
theorem StepInv.lt_of_readFrame (h : StepInv s) {b : Fin 2} {i : Nat} {f : Frame}
    (hf : s.mem.readFrame b i = some f) : i < s.cfg.signalLen := by
  by_contra hi
  have : s.mem.readFrame b i = none := read_of_indexedBelow (h.bufBound b) (Nat.not_lt.mp hi)
  rw [this] at hf
  cases hf

theorem StepInv.lt_of_readSample (h : StepInv s) {b : Fin 2} {i : Nat} {c : Fin 4} {v : Sample}
    (hv : s.mem.readSample b i c = some v) : i < s.cfg.signalLen := by
  obtain ⟨f, hf, -⟩ := Option.map_eq_some_iff.mp hv
  exact h.lt_of_readFrame hf

theorem StepInv.frameCopied (h : StepInv s) (hi : s.doaI < s.cfg.signalLen) (f : Frame) :
    StepInv (frameCopied f s) :=
  { h with
    memWf := Memory.wf_writeRaw h.memWf ..
    bufBound := by simpa [Machine.frameCopied] using h.bufBound
    rawBound := indexedBelow_write h.rawBound hi f
    doaIBound := hi }

theorem StepInv.rawQueued (h : StepInv s) {batch : List Frame}
    (hb : batch.length = s.cfg.signalLen) : StepInv (rawQueued batch s) :=
  { h.enqueueMessage (m := .samples batch) (beq_iff_eq.mpr hb) with doaIBound := Nat.zero_le _ }

theorem StepInv.sampleTaken (h : StepInv s) (hi : s.doaI < s.cfg.signalLen) (v : Sample) :
    StepInv (sampleTaken v s) :=
  { h with
    memWf := Memory.wf_writeCh h.memWf ..
    bufBound := by simpa [Machine.sampleTaken] using h.bufBound
    chBound := fun c => by
      show indexedBelow _ ((s.mem.writeCh s.doaC s.doaI v).ch.get c)
      rw [Memory.ch_writeCh, Channels.get_set]
      split
      · exact indexedBelow_write (h.chBound _) hi v
      · exact h.chBound c
    doaIBound := hi }

theorem StepInv.meanRemoved (h : StepInv s) {xs : List Sample}
    (hx : xs.length = s.cfg.signalLen) : StepInv (meanRemoved xs s) :=
  { h.setCh s.doaC (xs := xs.map (removeMean (dcMean s.cfg.signalLen s.dmxSum))) (by simpa using hx)
    with doaIBound := Nat.zero_le _ }

theorem StepInv.channelEnded (h : StepInv s) : StepInv (channelEnded s) := by
  unfold Machine.channelEnded
  split <;> exact { h with }

/-- Every entry of the lag table is a degree of 0..180 (R175). -/
theorem toNat_le_of_genLagTable {c : Config} {j : Nat} {d : Byte}
    (h : (genLagTable c)[j]? = some d) : d.toNat ≤ 180 := by
  obtain ⟨i, -, rfl⟩ := List.mem_map.mp (List.mem_of_getElem? h)
  rw [BitVec.toNat_ofNat]
  exact Nat.le_trans (Nat.mod_le _ _) (lagDegree_le _ _)

theorem StepInv.recordAxis (h : StepInv s) (lags : PerAxis (BitVec 32)) (a : Axis) {d : Byte}
    (hd : d.toNat ≤ 180) :
    StepInv { s with doaLag := lags, doaBearing := s.doaBearing.set a d } :=
  { h with
    bearingBound := PerAxis.forall_get_set (P := fun _ (d : Byte) => d.toNat ≤ 180) h.bearingBound hd }

theorem StepInv.axisComputed (h : StepInv s) (a : Axis) (xs ys : List Sample) {d : Byte}
    (hd : d.toNat ≤ 180) : StepInv (axisComputed a xs ys d s) :=
  ((h.correlate xs ys).recordAxis _ a hd).addOffset a d

theorem StepInv.doaAxis (h : StepInv s) {a : Axis} (hn : doaAxis a s = .next t) : StepInv t := by
  obtain ⟨xs, ys, j, d, hd, rfl⟩ := doaAxis_next hn
  exact h.axisComputed a xs ys (toNat_le_of_genLagTable (h.table ▸ hd))

theorem StepInv.execTDoa (h : StepInv s) (hn : execTDoa s = .next t) : StepInv t := by
  rcases execTDoa_cases s with e | e | e | e <;> rw [e] at hn
  · exact Host.Outcome.next.inj hn ▸ h.doaStart
  · obtain ⟨f, hf, ht⟩ := doaCopy_next hn
    have hcopied := h.frameCopied (h.lt_of_readFrame hf) f
    rcases ht with rfl | ⟨batch, hb, rfl⟩
    · exact hcopied
    · exact hcopied.rawQueued hb
  · obtain ⟨v, hv, ht⟩ := doaDemux_next hn
    have htaken := h.sampleTaken (h.lt_of_readSample hv) v
    rcases ht with rfl | ⟨xs, hx, rfl⟩
    · exact htaken
    · exact (htaken.meanRemoved hx).channelEnded
  · obtain ⟨u, v, hu, hv, rfl⟩ := doaCompute_next hn
    have hboth := (h.doaAxis hu).doaAxis hv
    exact { hboth with }

/-! ### Every instruction and every step -/

theorem exec_keeps_stepInv {i : Instr} (h : StepInv s) (hn : exec i s = .next t) : StepInv t := by
  cases i with
  | sync | panTiltStatus _ _ => exact Host.Outcome.next.inj hn ▸ h
  | samples batch => exact execSamples_next hn ▸ h
  | command c => exact Host.Outcome.next.inj hn ▸ h.applyCommand c
  | startSampling => exact Host.Outcome.next.inj hn ▸ h.startCapture
  | stopSampling => exact Host.Outcome.next.inj hn ▸ h.stopCapture
  | tick f =>
    obtain rfl := Host.Outcome.next.inj hn
    split
    · exact h.captureFrame f
    · exact h
  | getNewestBatch => exact Host.Outcome.next.inj hn ▸ h.newestBatch.returning _
  | releaseBatch => exact Host.Outcome.next.inj hn ▸ h.releaseReference
  | fromBatch b =>
    obtain ⟨batch, hb, rfl⟩ := (execFromBatch_eq_next ..).mp hn
    exact h.demuxBatch (batchValue_length hb)
  | xcorrReal x y =>
    obtain ⟨xs, -, ys, -, rfl⟩ := (execXcorrReal_eq_next ..).mp hn
    exact h.correlate xs ys
  | calcLag x y =>
    obtain ⟨xs, -, ys, -, rfl⟩ := (execCalcLag_eq_next ..).mp hn
    exact (h.correlate xs ys).returning _
  | genLagTable => exact Host.Outcome.next.inj hn ▸ h.genLagTable
  | reduceLag _ | degToPulse _ _ | stuff _ => exact Host.Outcome.next.inj hn ▸ h.returning _
  | lagToAngle lag => obtain ⟨v, rfl⟩ := execLagToAngle_next hn; exact h.returning v
  | calcAngle x y =>
    obtain ⟨xs, ys, d, rfl⟩ := execCalcAngle_next hn
    exact (h.correlate xs ys).returning _
  | setGoal a degrees => exact Host.Outcome.next.inj hn ▸ h.writeGoal a degrees
  | addGoalOffset a bearing =>
    obtain ⟨-, rfl⟩ := (execAddGoalOffset_eq_next ..).mp hn
    exact h.addOffset a bearing
  | step a => exact Host.Outcome.next.inj hn ▸ h.stepAxis a
  | serialize m => obtain ⟨v, rfl⟩ := execSerialize_next hn; exact h.returning v
  | deserialize p => obtain ⟨v, rfl⟩ := execDeserialize_next hn; exact h.returning v
  | unstuff body => obtain ⟨v, rfl⟩ := execUnstuff_next hn; exact h.returning v
  | encodeFrame m => obtain ⟨v, rfl⟩ := execEncodeFrame_next hn; exact h.returning v
  | feed input => exact h.execFeed input hn
  | send frame =>
    rcases execSend_next hn with ⟨v, rfl⟩ | ⟨v, rfl⟩
    · exact h.returning v
    · exact (h.startTransmit frame).returning v
  | enqueueTx m =>
    obtain ⟨hm, rfl⟩ := (execEnqueueTx_eq_next ..).mp hn
    exact h.enqueueMessage hm
  | sendSync => exact Host.Outcome.next.inj hn ▸ h.enqueueMessage rfl
  | hCaptureComplete => exact h.execHCaptureComplete hn
  | hRx => exact h.execHRx hn
  | hTxComplete => obtain rfl := Host.Outcome.next.inj hn; exact { h with }
  | tDoa => exact h.execTDoa hn
  | tCommand => exact h.execTCommand hn
  | tServoTick => exact h.execTServoTick hn
  | tTransmit => exact h.execTTransmit hn
  | textPan _ | textTilt _ | textStart | textStop => exact Host.Outcome.next.inj hn ▸ h.applyCommand _

theorem TurnTaken.keeps_stepInv {turn : Option Move} (h : StepInv s) (ht : TurnTaken turn s t) :
    StepInv t := by
  cases ht with
  | instruction i hn => exact exec_keeps_stepInv h hn
  | waited e => exact e ▸ h
  | delivered chunk e => subst e; exact { h with }
  | drained _ e => subst e; exact { h with }
  | ticked _ e => subst e; exact { h with }
  | wasReset _ e => exact e ▸ stepInv_resetWith h.cfgValid _ _
  | rejected e => subst e; exact { h with }

end Sys2Proof.Machine

open Sys2Proof Sys2Proof.Machine

/-- Settles O52: by the turn the step takes; in reset it is the base case of a valid configuration. -/
theorem everyStepKeepsStepInv : Obligations.EveryStepKeepsStepInv := by
  intro s t h hn
  cases hr : s.inReset with
  | true =>
    obtain ⟨-, rfl⟩ := step_exitReset hr hn
    exact { stepInv_resetWith h.cfgValid s.sched s.l2Draws with }
  | false =>
    obtain ⟨rest, draws, ht⟩ := step_taken hr hn
    have h' : StepInv { s with sched := rest, l2Draws := draws } := { h with }
    exact ht.keeps_stepInv h'

/-- Settles O49: the reset move and reset exit by the turn they are, the values of the reset table by
the definition of `State.resetWith`. -/
theorem resetStateAndExit : Obligations.ResetStateAndExit := by
  refine fun s => ⟨fun rest hr hs => ?_, fun hr hc => ?_, fun c moves draws r hreset => ?_⟩
  · exact ⟨_, step_of_sched hr hs, rfl, rfl, rfl, rfl⟩
  · exact ⟨_, step_of_inReset hr hc, rfl, rfl⟩
  · subst hreset
    exact ⟨⟨rfl, rfl, rfl, rfl, rfl, rfl⟩, readFrame_resetWith c moves draws, fun _ => rfl,
      readCh_resetWith c moves draws, fun _ => rfl, rfl, rfl, servo_resetWith c moves draws, rfl, rfl,
      ⟨rfl, rfl, rfl, rfl, rfl⟩, ⟨rfl, rfl, rfl, rfl⟩, ⟨rfl, rfl, rfl, rfl⟩, rfl, rfl⟩

/-- Settles O51: the configuration of `State.reset` is one of the valid ones. -/
theorem invariantsHoldAtReset : Obligations.InvariantsHoldAtReset := by
  have hdefault : configValid Config.default = true := by decide
  exact ⟨fun _ _ draws hc hm => runInv_resetWith hc hm draws, stepInv_resetWith hdefault [] 0,
    runInv_resetWith (moves := []) hdefault (fun _ _ h => nomatch h) 0⟩
end

section
/-! Who writes what. The state is cut into parts, one per rule that lists writers; an update keeps
every part but the ones it names, and each instruction is a chain of updates (O55, O56). -/

namespace Sys2Proof.Machine

-- One after another, like the tests: many case splits at once ask for many threads.
set_option Elab.async false

variable {s t u : State}

/-! ### The parts of the state and their writers -/

/-- The parts of the state, cut so that each has one list of writers. Events have one part for being
set and one for being cleared; the last three parts have no writer at all. -/
inductive Part where
  | position | goal
  | capEn | buffers | capOut | capWr | capPaused
  | doaNewest | doaTask | lagTab
  | rxAcc | txBuf | txBusy | cmdq | linkRxq | txqS | txqR
  | frames | channels | corr
  | batchSet | batchCleared | txc | doaSet | doaCleared | stick
  | gGap | gOverrun | gTxDrop | log
  | environment | ghostCleared | diagCut

/-- A part differs between two states. -/
def Part.changed (s t : State) : Part → Prop
  | .position => t.srvCur ≠ s.srvCur ∨ t.srvPulse ≠ s.srvPulse
  | .goal => t.srvGoal ≠ s.srvGoal
  | .capEn => t.capEn ≠ s.capEn
  | .buffers => t.capActive ≠ s.capActive ∨ t.capRdyV ≠ s.capRdyV
  | .capOut => t.capOut ≠ s.capOut
  | .capWr => t.capWr ≠ s.capWr
  | .capPaused => t.capPaused ≠ s.capPaused
  | .doaNewest => t.doaNewest ≠ s.doaNewest
  | .doaTask => t.doaSrc ≠ s.doaSrc ∨ t.doaPhase ≠ s.doaPhase ∨ t.doaC ≠ s.doaC ∨ t.doaI ≠ s.doaI ∨
      t.doaLag ≠ s.doaLag ∨ t.doaBearing ≠ s.doaBearing ∨ t.mem.raw ≠ s.mem.raw
  | .lagTab => t.lagTab ≠ s.lagTab
  | .rxAcc => t.rxAcc ≠ s.rxAcc
  | .txBuf => t.txBuf ≠ s.txBuf
  | .txBusy => t.txBusy ≠ s.txBusy
  | .cmdq => t.cmdq ≠ s.cmdq
  | .linkRxq => t.linkRxq ≠ s.linkRxq
  | .txqS => t.txqS ≠ s.txqS
  | .txqR => t.txqR ≠ s.txqR
  | .frames => ∃ b, t.mem.buf b ≠ s.mem.buf b
  | .channels => t.mem.ch ≠ s.mem.ch ∨ t.dmxSum ≠ s.dmxSum
  | .corr => t.mem.corr ≠ s.mem.corr
  | .batchSet => s.pendBatch = false ∧ t.pendBatch = true
  | .batchCleared => s.pendBatch = true ∧ t.pendBatch = false
  | .txc => t.pendTxc ≠ s.pendTxc
  | .doaSet => s.pendDoa = false ∧ t.pendDoa = true
  | .doaCleared => s.pendDoa = true ∧ t.pendDoa = false
  | .stick => t.pendStick ≠ s.pendStick
  | .gGap => t.gGap ≠ s.gGap
  | .gOverrun => t.gOverrun ≠ s.gOverrun
  | .gTxDrop => t.gTxDrop ≠ s.gTxDrop
  | .log => t.gCmdDrop ≠ s.gCmdDrop ∨ t.diag ≠ s.diag
  | .environment => t.cfg ≠ s.cfg ∨ t.linkTx ≠ s.linkTx ∨ t.inReset ≠ s.inReset ∨ t.sched ≠ s.sched
  | .ghostCleared => ¬ ((s.gGap = true → t.gGap = true) ∧ (s.gOverrun = true → t.gOverrun = true) ∧
      (s.gTxDrop = true → t.gTxDrop = true) ∧ (s.gCmdDrop = true → t.gCmdDrop = true))
  | .diagCut => ¬ ∃ codes, t.diag = s.diag ++ codes

/-- The instructions that may write a part, rule by rule (10_state R21 to R48). -/
def Part.writtenBy (i : Instr) : Part → Prop
  | .position => (∃ a, i = .step a) ∨ i = .tServoTick
  | .goal => (∃ a d, i = .setGoal a d) ∨ (∃ a b, i = .addGoalOffset a b) ∨ i = .tDoa ∨
      i = .tCommand ∨ (∃ c, i = .command c) ∨ (∃ d, i = .textPan d ∨ i = .textTilt d)
  | .capEn => i = .startSampling ∨ i = .stopSampling ∨ i = .tCommand ∨ (∃ c, i = .command c) ∨
      i = .textStart ∨ i = .textStop
  | .buffers => i = .getNewestBatch ∨ i = .hCaptureComplete
  | .capOut => i = .getNewestBatch ∨ i = .hCaptureComplete ∨ i = .releaseBatch ∨ i = .tDoa
  | .capWr => (∃ f, i = .tick f) ∨ i = .startSampling ∨ i = .tCommand ∨ (∃ c, i = .command c) ∨
      i = .textStart ∨ i = .getNewestBatch ∨ i = .hCaptureComplete
  | .capPaused => i = .startSampling ∨ i = .tCommand ∨ (∃ c, i = .command c) ∨ i = .textStart ∨
      i = .hCaptureComplete ∨ i = .tDoa
  | .doaNewest => i = .hCaptureComplete
  | .doaTask => i = .tDoa
  | .lagTab => i = .genLagTable
  | .rxAcc => (∃ input, i = .feed input) ∨ i = .hRx
  | .txBuf => (∃ frame, i = .send frame) ∨ i = .tTransmit
  | .txBusy => (∃ frame, i = .send frame) ∨ i = .tTransmit ∨ i = .hTxComplete
  | .cmdq => i = .hRx ∨ i = .tCommand
  | .linkRxq => i = .hRx
  | .txqS => (∃ m, i = .enqueueTx m) ∨ i = .tDoa ∨ i = .tTransmit
  | .txqR => (∃ m, i = .enqueueTx m) ∨ i = .sendSync ∨ i = .tTransmit ∨ i = .tCommand ∨
      (∃ c, i = .command c) ∨ (∃ d, i = .textPan d ∨ i = .textTilt d) ∨ i = .textStart ∨ i = .textStop
  | .frames => ∃ f, i = .tick f
  | .channels => (∃ b, i = .fromBatch b) ∨ i = .tDoa
  | .corr => (∃ x y, i = .xcorrReal x y ∨ i = .calcLag x y ∨ i = .calcAngle x y) ∨ i = .tDoa
  | .batchSet => ∃ f, i = .tick f
  | .batchCleared => i = .hCaptureComplete ∨ i = .startSampling ∨ i = .tCommand ∨
      (∃ c, i = .command c) ∨ i = .textStart
  | .txc => i = .hTxComplete
  | .doaSet => i = .hCaptureComplete
  | .doaCleared => i = .tDoa
  | .stick => i = .tServoTick
  | .gGap => ∃ f, i = .tick f
  | .gOverrun => i = .getNewestBatch ∨ i = .hCaptureComplete
  | .gTxDrop => (∃ m, i = .enqueueTx m) ∨ i = .sendSync ∨ i = .tDoa ∨ i = .tCommand ∨
      (∃ c, i = .command c) ∨ (∃ d, i = .textPan d ∨ i = .textTilt d) ∨ i = .textStart ∨ i = .textStop
  | .log => i = .hRx
  | .environment => False
  | .ghostCleared => False
  | .diagCut => False

/-- Every part outside a list is as before. -/
def Keeps (ps : List Part) (s t : State) : Prop := ∀ p, p ∉ ps → ¬ p.changed s t

theorem Part.not_changed_self (p : Part) (s : State) : ¬ p.changed s s := by
  cases p <;> simp [Part.changed]

theorem Part.not_changed_trans {p : Part} (h1 : ¬ p.changed s t) (h2 : ¬ p.changed t u) :
    ¬ p.changed s u := by
  cases p with
  | diagCut =>
    obtain ⟨codes, e1⟩ := not_not.mp h1
    obtain ⟨codes', e2⟩ := not_not.mp h2
    exact not_not.mpr ⟨codes ++ codes', by rw [e2, e1, List.append_assoc]⟩
  | _ => simp_all [Part.changed]

theorem Keeps.refl (ps : List Part) (s : State) : Keeps ps s s := fun p _ => p.not_changed_self s

theorem Keeps.trans {ps : List Part} (h1 : Keeps ps s t) (h2 : Keeps ps t u) : Keeps ps s u :=
  fun p hp => Part.not_changed_trans (h1 p hp) (h2 p hp)

theorem Keeps.mono {ps qs : List Part} (h : Keeps ps s t) (hs : ps ⊆ qs) : Keeps qs s t :=
  fun p hp => h p (fun hm => hp (hs hm))

/-! ### What each update keeps -/

theorem keeps_returning (v : Returned) (s : State) : Keeps [] s (returning v s) := by
  intro p _
  cases p <;> simp [Part.changed]

theorem keeps_startCapture (s : State) :
    Keeps [.capEn, .capPaused, .capWr, .batchCleared] s (startCapture s) := by
  intro p hp
  rcases startCapture_cases s with ⟨-, e⟩ | ⟨-, e⟩ <;> rw [e]
  · exact p.not_changed_self s
  · cases p <;> simp [Part.changed] at hp ⊢

theorem keeps_stopCapture (s : State) : Keeps [.capEn] s (stopCapture s) := by
  intro p hp
  cases p <;> simp [Part.changed] at hp ⊢

theorem keeps_captureFrame (f : Frame) (s : State) :
    Keeps [.frames, .capWr, .batchSet, .gGap] s (captureFrame f s) := by
  intro p hp
  rcases captureFrame_cases f s with ⟨-, e⟩ | ⟨-, e⟩ <;> rw [e]
  · cases p <;> simp_all [Part.changed]
  · cases p <;> simp_all [Part.changed]

theorem keeps_newestBatch (s : State) :
    Keeps [.buffers, .capOut, .capWr, .gOverrun] s (newestBatch s).2 := by
  intro p hp
  rcases newestBatch_cases s with ⟨-, e⟩ | ⟨-, e⟩ <;> rw [e]
  · cases p <;> simp_all [Part.changed]
  · exact p.not_changed_self s

theorem keeps_releaseReference (s : State) : Keeps [.capOut] s (releaseReference s) := by
  intro p hp
  cases p <;> simp [Part.changed] at hp ⊢

theorem keeps_demuxBatch (batch : List Frame) (s : State) :
    Keeps [.channels] s (demuxBatch batch s) := by
  intro p hp
  cases p <;> simp [Part.changed, demuxBatch] at hp ⊢

theorem keeps_correlate (xs ys : List Sample) (s : State) :
    Keeps [.corr] s (correlate xs ys s) := by
  intro p hp
  cases p <;> simp [Part.changed, correlate] at hp ⊢

theorem keeps_writeGoal (a : Axis) (degrees : Angle) (s : State) :
    Keeps [.goal] s (writeGoal a degrees s) := by
  intro p hp
  cases p <;> simp [Part.changed] at hp ⊢

theorem keeps_addOffset (a : Axis) (bearing : Byte) (s : State) :
    Keeps [.goal] s (addOffset a bearing s) := by
  intro p hp
  cases p <;> simp [Part.changed] at hp ⊢

theorem keeps_stepAxis (a : Axis) (s : State) : Keeps [.position] s (stepAxis a s) := by
  intro p hp
  cases p <;> simp [Part.changed] at hp ⊢

theorem keeps_startTransmit (frame : List Byte) (s : State) :
    Keeps [.txBusy, .txBuf] s (startTransmit frame s) := by
  intro p hp
  cases p <;> simp [Part.changed] at hp ⊢

/-- A `Samples` Message goes to `TXQ.S` or is dropped. -/
theorem keeps_enqueueSamples {m : Message} (hm : isSamples m = true) (s : State) :
    Keeps [.txqS, .gTxDrop] s (enqueueMessage m s) := by
  intro p hp
  rcases enqueueMessage_cases m s with ⟨-, -, e⟩ | ⟨hm', -, -⟩ | ⟨-, e⟩
  · rw [e]
    cases p <;> simp [Part.changed] at hp ⊢
  · rw [hm] at hm'; cases hm'
  · rw [e]
    cases p <;> simp [Part.changed] at hp ⊢

/-- Any other Message goes to `TXQ.R` or is dropped. -/
theorem keeps_enqueueReply {m : Message} (hm : isSamples m = false) (s : State) :
    Keeps [.txqR, .gTxDrop] s (enqueueMessage m s) := by
  intro p hp
  rcases enqueueMessage_cases m s with ⟨hm', -, -⟩ | ⟨-, -, e⟩ | ⟨-, e⟩
  · rw [hm] at hm'; cases hm'
  · rw [e]
    cases p <;> simp [Part.changed] at hp ⊢
  · rw [e]
    cases p <;> simp [Part.changed] at hp ⊢

theorem keeps_enqueueMessage (m : Message) (s : State) :
    Keeps [.txqS, .txqR, .gTxDrop] s (enqueueMessage m s) := by
  cases hm : isSamples m with
  | true => exact (keeps_enqueueSamples hm s).mono (by simp)
  | false => exact (keeps_enqueueReply hm s).mono (by simp)

theorem keeps_deliverMessage (m : Message) (s : State) :
    Keeps [.cmdq, .log] s (deliverMessage m s) := by
  intro p hp
  rcases deliverMessage_cases m s with ⟨c, -, -, e⟩ | ⟨c, -, -, e⟩ | ⟨-, e⟩ <;> rw [e]
  · cases p <;> simp [Part.changed] at hp ⊢
  · cases p <;> simp [Part.changed] at hp ⊢
  · exact p.not_changed_self s

theorem keeps_handleResult (r : FeedResult) (s : State) :
    Keeps [.cmdq, .log] s (handleResult r s) := by
  rcases handleResult_cases r s with ⟨m, -, e⟩ | e | ⟨k, e⟩ <;> rw [e]
  · exact keeps_deliverMessage m s
  · exact Keeps.refl _ s
  · intro p hp
    cases p <;> simp [Part.changed] at hp ⊢

theorem keeps_rxAcc (acc : List Byte) (s : State) : Keeps [.rxAcc] s { s with rxAcc := acc } := by
  intro p hp
  cases p <;> simp [Part.changed] at hp ⊢

theorem keeps_feedChunk (chunk : List Byte) (s : State) :
    Keeps [.rxAcc, .cmdq, .log] s (feedChunk chunk s) :=
  feedChunk_induct s (Keeps _ s) chunk ((keeps_rxAcc _ s).mono (by simp))
    (fun r t h => h.trans ((keeps_handleResult r t).mono (by simp)))

theorem keeps_doaStart (s : State) : Keeps [.doaTask, .doaCleared, .channels] s (doaStart s) := by
  intro p hp
  cases p <;> simp [Part.changed] at hp ⊢

theorem keeps_handOver (s : State) :
    Keeps [.batchCleared, .gOverrun, .buffers, .capWr, .capOut, .capPaused, .doaNewest, .doaSet] s
      (handOver s) := by
  intro p hp
  cases p <;> simp_all [Part.changed, handOver]

theorem keeps_frameCopied (f : Frame) (s : State) : Keeps [.doaTask] s (frameCopied f s) := by
  intro p hp
  cases p <;> simp [Part.changed, frameCopied] at hp ⊢

theorem keeps_rawQueued (batch : List Frame) (s : State) :
    Keeps [.doaTask, .txqS, .gTxDrop] s (rawQueued batch s) := by
  refine ((keeps_enqueueSamples (m := .samples batch) rfl s).mono (by simp)).trans ?_
  intro p hp
  cases p <;> simp [Part.changed, rawQueued] at hp ⊢

theorem keeps_sampleTaken (v : Sample) (s : State) :
    Keeps [.doaTask, .channels] s (sampleTaken v s) := by
  intro p hp
  cases p <;> simp [Part.changed, sampleTaken] at hp ⊢

theorem keeps_meanRemoved (xs : List Sample) (s : State) :
    Keeps [.doaTask, .channels] s (meanRemoved xs s) := by
  intro p hp
  cases p <;> simp [Part.changed, meanRemoved] at hp ⊢

theorem keeps_channelEnded (s : State) : Keeps [.doaTask, .capOut] s (channelEnded s) := by
  intro p hp
  unfold channelEnded
  split <;> cases p <;> simp [Part.changed] at hp ⊢

theorem keeps_axisComputed (a : Axis) (xs ys : List Sample) (d : Byte) (s : State) :
    Keeps [.goal, .corr, .doaTask] s (axisComputed a xs ys d s) := by
  refine Keeps.trans ?_ ((keeps_addOffset a d _).mono (by simp))
  intro p hp
  cases p <;> simp [Part.changed, correlate] at hp ⊢

end Sys2Proof.Machine
end

section
/-! Every instruction writes only the parts that list it, and no step but the named moves sets the
events of the environment (O55, O56). -/

namespace Sys2Proof.Machine

-- One after another, like the tests: many case splits at once ask for many threads.
set_option Elab.async false

variable {s t u : State} {i : Instr}

/-! ### Commands -/

theorem Keeps.whenPresent {α : Type} {ps : List Part} {act : α → State → State} (h : Keeps ps s t)
    (v : Option α) (hact : ∀ x, Keeps ps t (act x t)) : Keeps ps s (whenPresent v act t) :=
  whenPresent_cases t (Keeps ps s) v act h (fun x => h.trans (hact x))

/-- The status reply that ends a `Command` writes the reply queue or its drop flag. -/
theorem Keeps.replied {ps : List Part} (h : Keeps ps s t) :
    Keeps (ps ++ [.txqR, .gTxDrop]) s (enqueueMessage (statusReply t) t) :=
  (h.mono (List.subset_append_left ..)).trans
    ((keeps_enqueueReply rfl t).mono (List.subset_append_right ..))

theorem keeps_applyCommand (c : Command) (s : State) :
    Keeps ([.goal, .capEn, .capPaused, .capWr, .batchCleared] ++ [.txqR, .gTxDrop]) s
      (applyCommand c s) := by
  have hgoal : ∀ a d t, Keeps [.goal, .capEn, .capPaused, .capWr, .batchCleared] t (writeGoal a d t) :=
    fun a d t => (keeps_writeGoal a d t).mono (by simp)
  have hpan := (Keeps.refl _ s).whenPresent c.panDegrees (hgoal .pan · s)
  have htilt := hpan.whenPresent c.tiltDegrees (hgoal .tilt · _)
  have hen := htilt.whenPresent c.samplingEnabled
    (act := fun en t => if en then startCapture t else stopCapture t) (fun en => by
      cases en with
      | true => exact (keeps_startCapture _).mono (by simp)
      | false => exact (keeps_stopCapture _).mono (by simp))
  exact hen.replied

/-! ### The handlers and tasks -/

theorem keeps_execHRx (h : execHRx s = .next t) : Keeps [.linkRxq, .rxAcc, .cmdq, .log] s t := by
  rcases execHRx_next h with rfl | ⟨chunk, rest, -, rfl⟩
  · exact Keeps.refl _ _
  · refine Keeps.trans ?_ ((keeps_feedChunk chunk _).mono (by simp))
    intro p hp
    cases p <;> simp [Part.changed] at hp ⊢

theorem keeps_execTCommand (h : execTCommand s = .next t) :
    Keeps [.cmdq, .goal, .capEn, .capPaused, .capWr, .batchCleared, .txqR, .gTxDrop] s t := by
  rcases execTCommand_next h with rfl | ⟨c, rest, -, rfl⟩
  · exact Keeps.refl _ _
  · refine Keeps.trans ?_ ((keeps_applyCommand c _).mono (by simp))
    intro p hp
    cases p <;> simp [Part.changed] at hp ⊢

theorem keeps_execHCaptureComplete (h : execHCaptureComplete s = .next t) :
    Keeps [.batchCleared, .gOverrun, .buffers, .capWr, .capOut, .capPaused, .doaNewest, .doaSet] s
      t := by
  rcases execHCaptureComplete_next h with rfl | ⟨-, rfl⟩
  · intro p hp
    cases p <;> simp [Part.changed] at hp ⊢
  · exact keeps_handOver s

theorem keeps_execHTxComplete (h : execHTxComplete s = .next t) : Keeps [.txc, .txBusy] s t := by
  obtain rfl := Host.Outcome.next.inj h
  intro p hp
  cases p <;> simp [Part.changed] at hp ⊢

theorem keeps_execTServoTick (h : execTServoTick s = .next t) : Keeps [.stick, .position] s t := by
  obtain rfl := Host.Outcome.next.inj h
  refine Keeps.trans ?_ ((keeps_stepAxis .tilt _).mono (by simp))
  refine Keeps.trans ?_ ((keeps_stepAxis .pan _).mono (by simp))
  intro p hp
  cases p <;> simp [Part.changed] at hp ⊢

theorem keeps_execTTransmit (h : execTTransmit s = .next t) :
    Keeps [.txqR, .txqS, .txBusy, .txBuf] s t := by
  rcases execTTransmit_next h with rfl | ⟨m, rest, -, rfl⟩ | ⟨m, rest, -, rfl⟩
  · exact Keeps.refl _ _
  · refine Keeps.trans ?_ ((keeps_startTransmit _ _).mono (by simp))
    intro p hp
    cases p <;> simp [Part.changed] at hp ⊢
  · refine Keeps.trans ?_ ((keeps_startTransmit _ _).mono (by simp))
    intro p hp
    cases p <;> simp [Part.changed] at hp ⊢

theorem keeps_doaAxis {a : Axis} (h : doaAxis a s = .next t) :
    Keeps [.goal, .corr, .doaTask] s t := by
  obtain ⟨xs, ys, j, d, -, rfl⟩ := doaAxis_next h
  exact keeps_axisComputed a xs ys d s

theorem keeps_execTDoa (h : execTDoa s = .next t) :
    Keeps [.goal, .capOut, .capPaused, .doaTask, .txqS, .channels, .corr, .doaCleared, .gTxDrop]
      s t := by
  rcases execTDoa_cases s with e | e | e | e <;> rw [e] at h
  · obtain rfl := Host.Outcome.next.inj h
    exact (keeps_doaStart s).mono (by simp)
  · obtain ⟨f, -, rfl | ⟨batch, -, rfl⟩⟩ := doaCopy_next h
    · exact (keeps_frameCopied f s).mono (by simp)
    · exact ((keeps_frameCopied f s).mono (by simp)).trans ((keeps_rawQueued batch _).mono (by simp))
  · obtain ⟨v, -, rfl | ⟨xs, -, rfl⟩⟩ := doaDemux_next h
    · exact (keeps_sampleTaken v s).mono (by simp)
    · exact (((keeps_sampleTaken v s).mono (by simp)).trans
        ((keeps_meanRemoved xs _).mono (by simp))).trans ((keeps_channelEnded _).mono (by simp))
  · obtain ⟨u, v, hu, hv, rfl⟩ := doaCompute_next h
    refine (((keeps_doaAxis hu).mono (by simp)).trans ((keeps_doaAxis hv).mono (by simp))).trans ?_
    intro p hp
    cases p <;> simp [Part.changed] at hp ⊢

/-! ### Every instruction -/

/-- What is written lies in the parts kept track of, and each of these lists the instruction. -/
theorem Keeps.written {ps : List Part} (h : Keeps ps s t) (hw : ∀ p ∈ ps, p.writtenBy i) :
    ∀ p : Part, p.changed s t → p.writtenBy i :=
  fun p hc => hw p (by_contra fun hp => h p hp hc)

/-- A part changes only by an instruction of its list. -/
theorem exec_writers (h : exec i s = .next t) : ∀ p : Part, p.changed s t → p.writtenBy i := by
  cases i with
  | sync | panTiltStatus _ _ =>
    obtain rfl := Host.Outcome.next.inj h
    exact (Keeps.refl [] s).written (by simp)
  | samples batch =>
    obtain rfl := execSamples_next h
    exact (Keeps.refl [] _).written (by simp)
  | command c =>
    obtain rfl := Host.Outcome.next.inj h
    exact (keeps_applyCommand c s).written (by simp [Part.writtenBy])
  | startSampling =>
    obtain rfl := Host.Outcome.next.inj h
    exact (keeps_startCapture s).written (by simp [Part.writtenBy])
  | stopSampling =>
    obtain rfl := Host.Outcome.next.inj h
    exact (keeps_stopCapture s).written (by simp [Part.writtenBy])
  | tick f =>
    obtain rfl := Host.Outcome.next.inj h
    split
    · exact (keeps_captureFrame f s).written (by simp [Part.writtenBy])
    · exact (Keeps.refl [] s).written (by simp)
  | getNewestBatch =>
    obtain rfl := Host.Outcome.next.inj h
    exact ((keeps_newestBatch s).trans ((keeps_returning _ _).mono (by simp))).written
      (by simp [Part.writtenBy])
  | releaseBatch =>
    obtain rfl := Host.Outcome.next.inj h
    exact (keeps_releaseReference s).written (by simp [Part.writtenBy])
  | fromBatch b =>
    obtain ⟨batch, -, rfl⟩ := (execFromBatch_eq_next ..).mp h
    exact (keeps_demuxBatch batch s).written (by simp [Part.writtenBy])
  | xcorrReal x y =>
    obtain ⟨xs, -, ys, -, rfl⟩ := (execXcorrReal_eq_next ..).mp h
    exact (keeps_correlate xs ys s).written (by simp [Part.writtenBy])
  | calcLag x y =>
    obtain ⟨xs, -, ys, -, rfl⟩ := (execCalcLag_eq_next ..).mp h
    exact ((keeps_correlate xs ys s).trans ((keeps_returning _ _).mono (by simp))).written
      (by simp [Part.writtenBy])
  | calcAngle x y =>
    obtain ⟨xs, ys, d, rfl⟩ := execCalcAngle_next h
    exact ((keeps_correlate xs ys s).trans ((keeps_returning _ _).mono (by simp))).written
      (by simp [Part.writtenBy])
  | genLagTable =>
    obtain rfl := Host.Outcome.next.inj h
    refine Keeps.written (ps := [.lagTab]) (fun p hp => ?_) (by simp [Part.writtenBy])
    cases p <;> simp [Part.changed] at hp ⊢
  | reduceLag _ | degToPulse _ _ | stuff _ =>
    obtain rfl := Host.Outcome.next.inj h
    exact (keeps_returning _ s).written (by simp)
  | lagToAngle lag =>
    obtain ⟨v, rfl⟩ := execLagToAngle_next h
    exact (keeps_returning v s).written (by simp)
  | serialize m =>
    obtain ⟨v, rfl⟩ := execSerialize_next h
    exact (keeps_returning v s).written (by simp)
  | deserialize payload =>
    obtain ⟨v, rfl⟩ := execDeserialize_next h
    exact (keeps_returning v s).written (by simp)
  | unstuff body =>
    obtain ⟨v, rfl⟩ := execUnstuff_next h
    exact (keeps_returning v s).written (by simp)
  | encodeFrame m =>
    obtain ⟨v, rfl⟩ := execEncodeFrame_next h
    exact (keeps_returning v s).written (by simp)
  | setGoal a degrees =>
    obtain rfl := Host.Outcome.next.inj h
    exact (keeps_writeGoal a degrees s).written (by simp [Part.writtenBy])
  | addGoalOffset a bearing =>
    obtain ⟨-, rfl⟩ := (execAddGoalOffset_eq_next ..).mp h
    exact (keeps_addOffset a bearing s).written (by simp [Part.writtenBy])
  | step a =>
    obtain rfl := Host.Outcome.next.inj h
    exact (keeps_stepAxis a s).written (by simp [Part.writtenBy])
  | feed input =>
    obtain rfl := Host.Outcome.next.inj h
    exact ((keeps_rxAcc _ s).trans ((keeps_returning _ _).mono (by simp))).written
      (by simp [Part.writtenBy])
  | send frame =>
    obtain ⟨v, rfl⟩ | ⟨v, rfl⟩ := execSend_next h
    · exact (keeps_returning v s).written (by simp)
    · exact ((keeps_startTransmit frame s).trans ((keeps_returning v _).mono (by simp))).written
        (by simp [Part.writtenBy])
  | enqueueTx m =>
    obtain ⟨-, rfl⟩ := (execEnqueueTx_eq_next ..).mp h
    exact (keeps_enqueueMessage m s).written (by simp [Part.writtenBy])
  | sendSync =>
    obtain rfl := Host.Outcome.next.inj h
    exact (keeps_enqueueReply rfl s).written (by simp [Part.writtenBy])
  | hCaptureComplete => exact (keeps_execHCaptureComplete h).written (by simp [Part.writtenBy])
  | hRx => exact (keeps_execHRx h).written (by simp [Part.writtenBy])
  | hTxComplete => exact (keeps_execHTxComplete h).written (by simp [Part.writtenBy])
  | tDoa => exact (keeps_execTDoa h).written (by simp [Part.writtenBy])
  | tCommand => exact (keeps_execTCommand h).written (by simp [Part.writtenBy])
  | tServoTick => exact (keeps_execTServoTick h).written (by simp [Part.writtenBy])
  | tTransmit => exact (keeps_execTTransmit h).written (by simp [Part.writtenBy])
  | textPan d =>
    obtain rfl := Host.Outcome.next.inj h
    exact (keeps_writeGoal .pan d s).replied.written (by simp [Part.writtenBy])
  | textTilt d =>
    obtain rfl := Host.Outcome.next.inj h
    exact (keeps_writeGoal .tilt d s).replied.written (by simp [Part.writtenBy])
  | textStart =>
    obtain rfl := Host.Outcome.next.inj h
    exact (keeps_startCapture s).replied.written (by simp [Part.writtenBy])
  | textStop =>
    obtain rfl := Host.Outcome.next.inj h
    exact (keeps_stopCapture s).replied.written (by simp [Part.writtenBy])

end Sys2Proof.Machine
end

section
/-! What the writers do with what they write, and the moves that set the environment's events; the
statements O55 and O56. -/

namespace Sys2Proof.Machine

variable {s t u : State} {i : Instr}

/-! ### The writers' own changes -/

/-- One step moves an angle by at most one degree (R198). -/
theorem stepAngle_close (cur goal : Angle) :
    ((stepAngle cur goal).toInt - cur.toInt).natAbs ≤ 1 := by
  rw [toInt_stepAngle]
  split
  · omega
  · split <;> omega

theorem stepAxis_close (a b : Axis) (s : State) :
    (((stepAxis a s).srvCur.get b).toInt - (s.srvCur.get b).toInt).natAbs ≤ 1 := by
  rw [stepAxis_srvCur, PerAxis.get_set]
  split
  next hb => exact hb ▸ stepAngle_close _ _
  next => simp

/-- The servo task steps each axis once. -/
theorem bothStepped_srvCur (s : State) (a : Axis) :
    (stepAxis .tilt (stepAxis .pan s)).srvCur.get a = stepAngle (s.srvCur.get a) (s.srvGoal.get a) := by
  cases a with
  | pan => rfl
  | tilt => rfl

theorem execTServoTick_close (h : execTServoTick s = .next t) (a : Axis) :
    ((t.srvCur.get a).toInt - (s.srvCur.get a).toInt).natAbs ≤ 1 := by
  obtain rfl := Host.Outcome.next.inj h
  rw [bothStepped_srvCur]
  exact stepAngle_close _ _

theorem exec_srvCur_close (h : exec i s = .next t) (a : Axis) :
    ((t.srvCur.get a).toInt - (s.srvCur.get a).toInt).natAbs ≤ 1 := by
  by_cases hcur : t.srvCur = s.srvCur
  · simp [hcur]
  · obtain ⟨b, rfl⟩ | rfl := exec_writers h .position (.inl hcur)
    · obtain rfl := Host.Outcome.next.inj h
      exact stepAxis_close b a s
    · exact execTServoTick_close h a

theorem execTick_next {f : Frame} (h : execTick f s = .next t) : t = s ∨ t = captureFrame f s := by
  obtain rfl := Host.Outcome.next.inj h
  split
  · exact .inr rfl
  · exact .inl rfl

/-- Only the frame at the DMA destination is written (R132). -/
theorem captureFrame_readFrame (f : Frame) {b : Fin 2} {j : Nat}
    (h : (captureFrame f s).mem.readFrame b j ≠ s.mem.readFrame b j) :
    b = s.capActive ∧ j = s.capWr := by
  rcases captureFrame_cases f s with ⟨-, e⟩ | ⟨-, e⟩ <;> rw [e] at h
  · by_cases hb : b = s.capActive
    · refine ⟨hb, by_contra fun hj => h ?_⟩
      subst hb
      simp [Memory.readFrame, Memory.buf_writeFrame, Store.read_write_other _ _ _ hj]
    · exact absurd (by simp [Memory.readFrame, Memory.buf_writeFrame, hb]) h
  · exact absurd rfl h

theorem exec_readFrame_changed (h : exec i s = .next t) {b : Fin 2} {j : Nat}
    (hf : t.mem.readFrame b j ≠ s.mem.readFrame b j) :
    b = s.capActive ∧ j = s.capWr ∧ ∃ f, i = .tick f := by
  obtain ⟨f, rfl⟩ := exec_writers h .frames ⟨b, fun e => hf (by simp [Memory.readFrame, e])⟩
  rcases execTick_next h with rfl | rfl
  · exact absurd rfl hf
  · obtain ⟨hb, hj⟩ := captureFrame_readFrame f hf
    exact ⟨hb, hj, f, rfl⟩

/-- The event is pended by the tick that fills the buffer (R132). -/
theorem exec_pendBatch_set (h : exec i s = .next t) (h0 : s.pendBatch = false)
    (h1 : t.pendBatch = true) : (∃ f, i = .tick f) ∧ t.capWr = s.cfg.signalLen := by
  obtain ⟨f, rfl⟩ := exec_writers h .batchSet ⟨h0, h1⟩
  refine ⟨⟨f, rfl⟩, ?_⟩
  rcases execTick_next h with rfl | rfl
  · rw [h0] at h1; cases h1
  · rcases captureFrame_cases f s with ⟨-, e⟩ | ⟨-, e⟩ <;> rw [e] at h1 ⊢
    · simpa [h0] using h1
    · rw [show s.pendBatch = true from h1] at h0; cases h0

/-- `PEND.TXC` is only ever cleared, by the body of its handler (R252). -/
theorem exec_pendTxc_changed (h : exec i s = .next t) (hne : t.pendTxc ≠ s.pendTxc) :
    i = .hTxComplete ∧ t.pendTxc = false := by
  obtain rfl := exec_writers h .txc hne
  obtain rfl := Host.Outcome.next.inj h
  exact ⟨rfl, rfl⟩

/-- `PEND.STICK` is only ever cleared, by the body of its task (R263). -/
theorem exec_pendStick_changed (h : exec i s = .next t) (hne : t.pendStick ≠ s.pendStick) :
    i = .tServoTick ∧ t.pendStick = false := by
  obtain rfl := exec_writers h .stick hne
  obtain rfl := Host.Outcome.next.inj h
  exact ⟨rfl, rfl⟩

/-! ### What no instruction does -/

theorem exec_environment (h : exec i s = .next t) :
    t.cfg = s.cfg ∧ t.linkTx = s.linkTx ∧ t.inReset = s.inReset ∧ t.sched = s.sched := by
  have hkept : ¬ Part.environment.changed s t := exec_writers h .environment
  simpa only [Part.changed, not_or, not_not] using hkept

theorem exec_ghosts_stick (h : exec i s = .next t) :
    (s.gGap = true → t.gGap = true) ∧ (s.gOverrun = true → t.gOverrun = true) ∧
      (s.gTxDrop = true → t.gTxDrop = true) ∧ (s.gCmdDrop = true → t.gCmdDrop = true) :=
  not_not.mp (exec_writers h .ghostCleared)

theorem exec_diag_grows (h : exec i s = .next t) : ∃ codes, t.diag = s.diag ++ codes :=
  not_not.mp (exec_writers h .diagCut)

/-! ### What a turn does to the link, the events and the outputs -/

theorem TurnTaken.pendTxc_set {turn : Option Move} (ht : TurnTaken turn s t)
    (h0 : s.pendTxc = false) (h1 : t.pendTxc = true) : turn = some .drain := by
  cases ht with
  | instruction i h =>
    have hcleared := (exec_pendTxc_changed h (by simp [h0, h1])).2
    rw [h1] at hcleared; cases hcleared
  | drained hm _ => exact hm
  | wasReset _ e => subst e; cases h1
  | waited e | delivered _ e | ticked _ e | rejected e =>
    have h1' : s.pendTxc = true := by rw [e] at h1; exact h1
    rw [h0] at h1'; cases h1'

theorem TurnTaken.pendStick_set {turn : Option Move} (ht : TurnTaken turn s t)
    (h0 : s.pendStick = false) (h1 : t.pendStick = true) : turn = some .servoTick := by
  cases ht with
  | instruction i h =>
    have hcleared := (exec_pendStick_changed h (by simp [h0, h1])).2
    rw [h1] at hcleared; cases hcleared
  | ticked hm _ => exact hm
  | wasReset _ e => subst e; cases h1
  | waited e | delivered _ e | drained _ e | rejected e =>
    have h1' : s.pendStick = true := by rw [e] at h1; exact h1
    rw [h0] at h1'; cases h1'

theorem TurnTaken.linkTx_changed {turn : Option Move} (ht : TurnTaken turn s t)
    (hne : t.linkTx ≠ s.linkTx) : turn = some .drain ∨ turn = some .reset := by
  cases ht with
  | instruction i h => exact absurd (exec_environment h).2.1 hne
  | drained hm _ => exact .inl hm
  | wasReset hm _ => exact .inr hm
  | waited e | delivered _ e | ticked _ e | rejected e => subst e; exact absurd rfl hne

/-- What every turn but a reset does to the outputs: the configuration stands, `LINK.TX` and `DIAG`
grow, a ghost flag stays set. -/
structure OnlyGrows (s t : State) : Prop where
  cfg : t.cfg = s.cfg
  linkTx : ∃ bytes, t.linkTx = s.linkTx ++ bytes
  diag : ∃ codes, t.diag = s.diag ++ codes
  ghosts : (s.gGap = true → t.gGap = true) ∧ (s.gOverrun = true → t.gOverrun = true) ∧
    (s.gTxDrop = true → t.gTxDrop = true) ∧ (s.gCmdDrop = true → t.gCmdDrop = true)

theorem OnlyGrows.refl (s : State) : OnlyGrows s s :=
  ⟨rfl, ⟨[], by simp⟩, ⟨[], by simp⟩, id, id, id, id⟩

theorem TurnTaken.only_grows {turn : Option Move} (ht : TurnTaken turn s t)
    (hm : turn ≠ some .reset) : OnlyGrows s t := by
  have hself := OnlyGrows.refl s
  cases ht with
  | instruction i h =>
    obtain ⟨hcfg, hlink, -, -⟩ := exec_environment h
    exact ⟨hcfg, ⟨[], by simp [hlink]⟩, exec_diag_grows h, exec_ghosts_stick h⟩
  | waited e => exact e ▸ hself
  | delivered _ e | ticked _ e => subst e; exact { hself with }
  | drained _ e => subst e; exact { hself with linkTx := ⟨_, rfl⟩ }
  | wasReset hr _ => exact absurd hr hm
  | rejected e => subst e; exact { hself with diag := ⟨_, rfl⟩ }

end Sys2Proof.Machine

open Sys2Proof Sys2Proof.Machine

/-- Settles O55: the instruction clauses by the table of writers and the writers' own changes, the step
clauses by the turn the step takes. -/
theorem writersOfTheSharedState : Obligations.WritersOfTheSharedState := by
  refine ⟨fun i s t h => ?_, fun s t hr h => ?_⟩
  · have hw := exec_writers h
    obtain ⟨hcfg, hlink, -, -⟩ := exec_environment h
    exact ⟨hw .position, exec_srvCur_close h, hw .goal, hw .capEn, hw .buffers, hw .capOut,
      hw .capWr, hw .capPaused, hw .doaNewest, hw .doaTask, hw .lagTab, hw .rxAcc, hw .txBuf,
      hw .txBusy, hw .cmdq, hw .linkRxq, hw .txqS, fun _ _ hf => exec_readFrame_changed h hf,
      hw .channels, hw .corr, hw .txqR, exec_pendBatch_set h,
      fun h0 h1 => hw .batchCleared ⟨h0, h1⟩, exec_pendTxc_changed h,
      fun h0 h1 => hw .doaSet ⟨h0, h1⟩, fun h0 h1 => hw .doaCleared ⟨h0, h1⟩,
      exec_pendStick_changed h, hw .gGap, hw .gOverrun, hw .gTxDrop, hw .log, hlink, hcfg⟩
  · obtain ⟨rest, draws, ht⟩ := step_taken hr h
    refine ⟨fun h0 h1 => ?_, fun h0 h1 => ?_, fun hne => ?_⟩
    · exact List.head?_eq_some_iff.mp (ht.pendTxc_set h0 h1)
    · exact List.head?_eq_some_iff.mp (ht.pendStick_set h0 h1)
    · rcases ht.linkTx_changed hne with hm | hm
      · exact (List.head?_eq_some_iff.mp hm).imp fun _ => .inl
      · exact (List.head?_eq_some_iff.mp hm).imp fun _ => .inr

/-- Settles O56: no instruction writes the parts without writers, and no turn but a reset cuts an
output. -/
theorem outputsOnlyGrowAndGhostsStick : Obligations.OutputsOnlyGrowAndGhostsStick := by
  refine ⟨fun i s t h => ?_, fun s t h hr hm => ?_⟩
  · obtain ⟨hcfg, hlink, hreset, hsched⟩ := exec_environment h
    exact ⟨hcfg, hlink, hreset, hsched, exec_diag_grows h, exec_ghosts_stick h⟩
  · obtain ⟨rest, draws, ht⟩ := step_taken hr h
    have hturn : s.sched.head? ≠ some .reset := by
      intro e
      obtain ⟨rest, hs⟩ := List.head?_eq_some_iff.mp e
      exact hm rest hs
    obtain ⟨hcfg, hlink, hdiag, hghosts⟩ := ht.only_grows hturn
    exact ⟨hcfg, hlink, hdiag, hghosts⟩
end

section
/-! The ghost flags and `DIAG` are never read (R47, R48): every operation answers alike on states that
differ in them only (O57). -/

namespace Sys2Proof.Machine

variable {s t : State}

/-! ### States and outcomes up to the ghosts -/

/-- A state with its ghost flags clear and its `DIAG` empty. -/
def ghostFree (s : State) : State :=
  { s with gGap := false, gOverrun := false, gTxDrop := false, gCmdDrop := false, diag := [] }

/-- An outcome, its next state up to the ghosts. -/
def ghostFreeOutcome (o : StepOutcome) : StepOutcome := thenDo o (fun s => .next (ghostFree s))

theorem ghostFreeOutcome_eq_next {o : StepOutcome} (h : ghostFreeOutcome o = .next (ghostFree t)) :
    ∃ u, o = .next u ∧ ghostFree u = ghostFree t := by
  obtain ⟨u, hu, e⟩ := (thenDo_eq_next ..).mp h
  exact ⟨u, hu, Host.Outcome.next.inj e⟩

/-- States equal up to the ghosts differ in the ghosts only. -/
theorem eq_with_ghosts_of_ghostFree_eq {u : State} (h : ghostFree u = ghostFree t) :
    u = { t with gGap := u.gGap, gOverrun := u.gOverrun, gTxDrop := u.gTxDrop,
                 gCmdDrop := u.gCmdDrop, diag := u.diag } :=
  congrArg (fun v : State => { v with gGap := u.gGap, gOverrun := u.gOverrun, gTxDrop := u.gTxDrop,
                                      gCmdDrop := u.gCmdDrop, diag := u.diag }) h

/-- An update of the state does not read the ghosts. -/
def BlindUpdate (f : State → State) : Prop := ∀ s, ghostFree (f (ghostFree s)) = ghostFree (f s)

/-- An operation does not read the ghosts. -/
def Blind (k : State → StepOutcome) : Prop :=
  ∀ s, ghostFreeOutcome (k (ghostFree s)) = ghostFreeOutcome (k s)

theorem BlindUpdate.congr {f : State → State} (hf : BlindUpdate f) (h : ghostFree s = ghostFree t) :
    ghostFree (f s) = ghostFree (f t) := by rw [← hf s, h, hf t]

theorem Blind.congr {k : State → StepOutcome} (hk : Blind k) (h : ghostFree s = ghostFree t) :
    ghostFreeOutcome (k s) = ghostFreeOutcome (k t) := by rw [← hk s, h, hk t]

theorem BlindUpdate.id : BlindUpdate (fun s => s) := fun _ => rfl

theorem BlindUpdate.comp {f g : State → State} (hg : BlindUpdate g) (hf : BlindUpdate f) :
    BlindUpdate (fun s => g (f s)) := fun s => hg.congr (hf s)

theorem BlindUpdate.next {f : State → State} (hf : BlindUpdate f) : Blind (fun s => .next (f s)) :=
  fun s => congrArg Host.Outcome.next (hf s)

theorem Blind.comp {k : State → StepOutcome} {f : State → State} (hk : Blind k)
    (hf : BlindUpdate f) : Blind (fun s => k (f s)) := fun s => hk.congr (hf s)

theorem Blind.refused (r : Refusal) : Blind (fun _ => .refused r) := fun _ => rfl

/-! ### Sequencing, conditions and operands

Each takes a value `v` of the state that the ghosts do not enter: `hv` is `rfl` wherever `v` is. -/

theorem Blind.thenDo {o k : State → StepOutcome} (ho : Blind o) (hk : Blind k) :
    Blind (fun s => thenDo (o s) k) := by
  intro s
  show ghostFreeOutcome (Machine.thenDo (o (ghostFree s)) k) = ghostFreeOutcome (Machine.thenDo (o s) k)
  have h := ho s
  cases h1 : o (ghostFree s) <;> cases h2 : o s <;> rw [h1, h2] at h
  case next.next u v => exact hk.congr (Host.Outcome.next.inj h)
  case fault.fault => exact h
  case refused.refused => exact h
  all_goals cases h

theorem Blind.ite {c : State → Prop} [∀ s, Decidable (c s)] {k l : State → StepOutcome}
    (hc : ∀ s, c (ghostFree s) = c s) (hk : Blind k) (hl : Blind l) :
    Blind (fun s => if c s then k s else l s) := by
  intro s
  by_cases h : c s
  · simp only [if_pos h, if_pos ((hc s).mpr h), hk s]
  · simp only [if_neg h, if_neg (fun h' => h ((hc s).mp h')), hl s]

theorem BlindUpdate.ite {c : State → Prop} [∀ s, Decidable (c s)] {f g : State → State}
    (hc : ∀ s, c (ghostFree s) = c s) (hf : BlindUpdate f) (hg : BlindUpdate g) :
    BlindUpdate (fun s => if c s then f s else g s) := by
  intro s
  by_cases h : c s
  · simp only [if_pos h, if_pos ((hc s).mpr h), hf s]
  · simp only [if_neg h, if_neg (fun h' => h ((hc s).mp h')), hg s]

theorem Blind.orNoValue {α : Type} (store : StoreName) {v : State → Option α}
    {k : α → State → StepOutcome} (hv : ∀ s, v (ghostFree s) = v s) (hk : ∀ x, Blind (k x)) :
    Blind (fun s => orNoValue store (v s) (fun x => k x s)) := by
  intro s
  simp only [hv s]
  cases v s with
  | none => rfl
  | some x => exact hk x s

theorem Blind.ifWellFormed {ok : State → Bool} {k : State → StepOutcome}
    (hok : ∀ s, ok (ghostFree s) = ok s) (hk : Blind k) :
    Blind (fun s => ifWellFormed (ok s) (k s)) :=
  Blind.ite (fun s => by rw [hok]) hk (Blind.refused _)

theorem Blind.withBatch (b : BatchRef) {k : List Frame → State → StepOutcome}
    (hk : ∀ fs, Blind (k fs)) : Blind (fun s => withBatch s b (fun fs => k fs s)) := by
  cases b with
  | values frames => exact Blind.ite (fun _ => rfl) (hk frames) (Blind.refused _)
  | buffer i => exact Blind.orNoValue .buf (fun _ => rfl) hk

theorem Blind.withSeries (x : SeriesRef) {k : List Sample → State → StepOutcome}
    (hk : ∀ xs, Blind (k xs)) : Blind (fun s => withSeries s x (fun xs => k xs s)) := by
  cases x with
  | values xs => exact Blind.ite (fun _ => rfl) (hk xs) (Blind.refused _)
  | channel c => exact Blind.orNoValue .ch (fun _ => rfl) hk

theorem Blind.withAngle {lag : State → Int} {k : Byte → State → StepOutcome}
    (hlag : ∀ s, lag (ghostFree s) = lag s) (hk : ∀ d, Blind (k d)) :
    Blind (fun s => withAngle s (lag s) (fun d => k d s)) :=
  Blind.ite (c := fun s => inLagWindow s.cfg.k (lag s) = true) (fun s => by rw [hlag]; rfl)
    (Blind.orNoValue .lagTab (fun s => by rw [hlag]; rfl) hk) (Blind.refused _)

/-! ### The updates -/

theorem blind_returning (v : Returned) : BlindUpdate (returning v) := fun _ => rfl

theorem blind_startCapture : BlindUpdate startCapture :=
  BlindUpdate.ite (fun _ => rfl) BlindUpdate.id (fun _ => rfl)

theorem blind_stopCapture : BlindUpdate stopCapture := fun _ => rfl

theorem blind_captureFrame (f : Frame) : BlindUpdate (captureFrame f) :=
  BlindUpdate.ite (fun _ => rfl) (fun _ => rfl) (fun _ => rfl)

/-- `GET_NEWEST_BATCH` sets `G.OVERRUN` from `CAP.OUT` and reads no ghost for it. -/
theorem blind_getNewestBatch :
    BlindUpdate (fun s => returning (.batch (newestBatch s).1) (newestBatch s).2) := by
  intro s
  rcases newestBatch_cases s with ⟨h, e⟩ | ⟨h, e⟩ <;>
    rcases newestBatch_cases (ghostFree s) with ⟨h', e'⟩ | ⟨h', e'⟩
  · simp only [e, e']; rfl
  · exact absurd h h'
  · exact absurd h' h
  · simp only [e, e']; rfl

theorem blind_writeGoal (a : Axis) (degrees : Angle) : BlindUpdate (writeGoal a degrees) :=
  fun _ => rfl

theorem blind_stepAxis (a : Axis) : BlindUpdate (stepAxis a) := fun _ => rfl

theorem blind_startTransmit (frame : List Byte) : BlindUpdate (startTransmit frame) := fun _ => rfl

theorem blind_enqueueMessage (m : Message) : BlindUpdate (enqueueMessage m) :=
  BlindUpdate.ite (fun _ => rfl)
    (BlindUpdate.ite (fun _ => rfl) (fun _ => rfl) (fun _ => rfl))
    (BlindUpdate.ite (fun _ => rfl) (fun _ => rfl) (fun _ => rfl))

theorem blind_deliverMessage (m : Message) : BlindUpdate (deliverMessage m) := by
  cases m with
  | command c => exact BlindUpdate.ite (fun _ => rfl) (fun _ => rfl) (fun _ => rfl)
  | sync | panTiltStatus _ _ | samples _ => exact BlindUpdate.id

theorem blind_handleResult (r : FeedResult) : BlindUpdate (handleResult r) := by
  cases r with
  | ready m => exact blind_deliverMessage m
  | needMore => exact BlindUpdate.id
  | overFull | deserError => exact fun _ => rfl

theorem ghostFree_foldl_handleResult (rs : List FeedResult) (h : ghostFree s = ghostFree t) :
    ghostFree (rs.foldl (fun u r => handleResult r u) s) =
      ghostFree (rs.foldl (fun u r => handleResult r u) t) := by
  induction rs generalizing s t with
  | nil => exact h
  | cons r rs ih => exact ih ((blind_handleResult r).congr h)

theorem blind_feedChunk (chunk : List Byte) : BlindUpdate (feedChunk chunk) :=
  fun _ => ghostFree_foldl_handleResult _ rfl

theorem blind_whenPresent {α : Type} (v : Option α) {act : α → State → State}
    (hact : ∀ x, BlindUpdate (act x)) : BlindUpdate (whenPresent v act) := by
  cases v with
  | none => exact BlindUpdate.id
  | some x => exact hact x

/-- The status reply is made from the current angles. -/
theorem blind_reply : BlindUpdate (fun s => enqueueMessage (statusReply s) s) :=
  fun s => blind_enqueueMessage (statusReply s) s

theorem blind_applyCommand (c : Command) : BlindUpdate (applyCommand c) := by
  have hpan := blind_whenPresent c.panDegrees (blind_writeGoal .pan)
  have htilt := blind_whenPresent c.tiltDegrees (blind_writeGoal .tilt)
  have hen := blind_whenPresent c.samplingEnabled
    (act := fun en s => if en then startCapture s else stopCapture s)
    (fun en => BlindUpdate.ite (fun _ => rfl) blind_startCapture blind_stopCapture)
  exact blind_reply.comp (hen.comp (htilt.comp hpan))

/-! ### The operations -/

theorem blind_execDeserialize (payload : List Byte) : Blind (execDeserialize payload) := by
  intro s
  show ghostFreeOutcome (execDeserialize payload (ghostFree s)) = _
  unfold execDeserialize
  simp only [show (ghostFree s).cfg = s.cfg from rfl]
  cases deserialize s.cfg.signalLen payload <;> rfl

theorem blind_execUnstuff (body : List Byte) : Blind (execUnstuff body) := by
  refine Blind.ifWellFormed (fun _ => rfl) (fun s => ?_)
  cases unstuffBytes body <;> rfl

theorem blind_execHCaptureComplete : Blind execHCaptureComplete := by
  rw [funext execHCaptureComplete_eq]
  exact Blind.ite (fun _ => rfl) (BlindUpdate.next (fun _ => rfl)) (BlindUpdate.next (fun _ => rfl))

theorem blind_execHRx : Blind execHRx := by
  intro s
  unfold execHRx
  simp only [show (ghostFree s).linkRxq = s.linkRxq from rfl]
  cases s.linkRxq with
  | nil => rfl
  | cons chunk rest =>
    exact ((blind_feedChunk chunk).comp (f := fun s => { s with linkRxq := rest })
      (fun _ => rfl)).next s

theorem blind_execTCommand : Blind execTCommand := by
  intro s
  unfold execTCommand
  simp only [show (ghostFree s).cmdq = s.cmdq from rfl]
  cases s.cmdq with
  | nil => rfl
  | cons c rest =>
    exact ((blind_applyCommand c).comp (f := fun s => { s with cmdq := rest })
      (fun _ => rfl)).next s

theorem blind_execTServoTick : Blind execTServoTick :=
  ((blind_stepAxis .tilt).comp ((blind_stepAxis .pan).comp
    (f := fun s => { s with pendStick := false }) (fun _ => rfl))).next

theorem blind_execTTransmit : Blind execTTransmit := by
  refine Blind.ite (fun _ => rfl) BlindUpdate.id.next (fun s => ?_)
  simp only [show (ghostFree s).txqR = s.txqR from rfl, show (ghostFree s).txqS = s.txqS from rfl]
  cases s.txqR with
  | cons m rest => rfl
  | nil => cases s.txqS <;> rfl

theorem blind_doaQueueRaw : Blind doaQueueRaw :=
  Blind.orNoValue .raw (fun _ => rfl) fun batch =>
    (BlindUpdate.comp (g := fun s => { s with doaI := 0, doaPhase := .demux }) (fun _ => rfl)
      (blind_enqueueMessage (.samples batch))).next

theorem blind_doaCopy : Blind doaCopy :=
  Blind.orNoValue .buf (fun _ => rfl) fun f =>
    have hcopied : BlindUpdate (frameCopied f) := fun _ => rfl
    Blind.ite (fun _ => rfl) (blind_doaQueueRaw.comp hcopied) hcopied.next

theorem blind_doaEndChannel : Blind doaEndChannel :=
  Blind.orNoValue .ch (fun _ => rfl) fun _ =>
    Blind.ite (fun _ => rfl) (BlindUpdate.next (fun _ => rfl)) (BlindUpdate.next (fun _ => rfl))

theorem blind_doaDemux : Blind doaDemux :=
  Blind.orNoValue .buf (fun _ => rfl) fun v =>
    have htaken : BlindUpdate (sampleTaken v) := fun _ => rfl
    Blind.ite (fun _ => rfl) (blind_doaEndChannel.comp htaken) htaken.next

theorem blind_doaAxis (a : Axis) : Blind (doaAxis a) :=
  Blind.orNoValue .ch (fun _ => rfl) fun xs => Blind.orNoValue .ch (fun _ => rfl) fun ys =>
    Blind.withAngle (fun _ => rfl) fun d =>
      BlindUpdate.next (f := axisComputed a xs ys d) (fun _ => rfl)

theorem blind_doaCompute : Blind doaCompute :=
  (blind_doaAxis .pan).thenDo ((blind_doaAxis .tilt).thenDo (BlindUpdate.next (fun _ => rfl)))

theorem blind_execTDoa : Blind execTDoa := by
  intro s
  unfold execTDoa
  simp only [show (ghostFree s).doaPhase = s.doaPhase from rfl]
  cases s.doaPhase with
  | idle => rfl
  | copyTx => exact blind_doaCopy s
  | demux => exact blind_doaDemux s
  | compute => exact blind_doaCompute s

/-! ### Every instruction -/

theorem blind_exec (i : Instr) : Blind (exec i) := by
  cases i with
  | sync | panTiltStatus _ _ => exact BlindUpdate.id.next
  | samples batch => exact Blind.ifWellFormed (fun _ => rfl) BlindUpdate.id.next
  | command c => exact (blind_applyCommand c).next
  | startSampling => exact blind_startCapture.next
  | stopSampling => exact blind_stopCapture.next
  | tick f =>
    exact (BlindUpdate.ite (fun _ => rfl) (blind_captureFrame f) BlindUpdate.id).next
  | getNewestBatch => exact blind_getNewestBatch.next
  | releaseBatch | genLagTable => exact BlindUpdate.next (fun _ => rfl)
  | fromBatch b => exact Blind.withBatch b fun batch => BlindUpdate.next (fun _ => rfl)
  | xcorrReal x y | calcLag x y =>
    exact Blind.withSeries x fun xs => Blind.withSeries y fun ys => BlindUpdate.next (fun _ => rfl)
  | calcAngle x y =>
    exact Blind.withSeries x fun xs => Blind.withSeries y fun ys =>
      Blind.withAngle (fun _ => rfl) fun d => BlindUpdate.next (fun _ => rfl)
  | lagToAngle lag => exact Blind.withAngle (fun _ => rfl) fun d => (blind_returning _).next
  | reduceLag _ | degToPulse _ _ | stuff _ | feed _ => exact BlindUpdate.next (fun _ => rfl)
  | setGoal a degrees => exact (blind_writeGoal a degrees).next
  | addGoalOffset a bearing => exact Blind.ifWellFormed (fun _ => rfl) (BlindUpdate.next (fun _ => rfl))
  | step a => exact (blind_stepAxis a).next
  | serialize m | encodeFrame m => exact Blind.ifWellFormed (fun _ => rfl) (blind_returning _).next
  | deserialize payload => exact blind_execDeserialize payload
  | unstuff body => exact blind_execUnstuff body
  | send frame =>
    exact Blind.ifWellFormed (fun _ => rfl)
      (Blind.ite (fun _ => rfl) (blind_returning _).next (BlindUpdate.next (fun _ => rfl)))
  | enqueueTx m => exact Blind.ifWellFormed (fun _ => rfl) (blind_enqueueMessage m).next
  | sendSync => exact (blind_enqueueMessage .sync).next
  | hCaptureComplete => exact blind_execHCaptureComplete
  | hRx => exact blind_execHRx
  | hTxComplete => exact BlindUpdate.next (fun _ => rfl)
  | tDoa => exact blind_execTDoa
  | tCommand => exact blind_execTCommand
  | tServoTick => exact blind_execTServoTick
  | tTransmit => exact blind_execTTransmit
  | textPan _ | textTilt _ | textStart | textStop => exact (blind_applyCommand _).next

end Sys2Proof.Machine

open Sys2Proof Sys2Proof.Machine

/-- Settles O57: the two states are equal up to the ghosts, so their outcomes are. -/
theorem ghostsAndDiagAreNeverRead : Obligations.GhostsAndDiagAreNeverRead := by
  intro i s t g1 g2 g3 g4 d h
  have halike : ghostFreeOutcome (exec i { s with
      gGap := g1, gOverrun := g2, gTxDrop := g3, gCmdDrop := g4, diag := d }) =
      ghostFreeOutcome (exec i s) := (blind_exec i).congr rfl
  rw [h] at halike
  obtain ⟨u, hu, e⟩ := ghostFreeOutcome_eq_next halike
  exact ⟨u.gGap, u.gOverrun, u.gTxDrop, u.gCmdDrop, u.diag,
    hu.trans (congrArg _ (eq_with_ghosts_of_ghostFree_eq e))⟩
end

section
/-! The runs of the spec's own moves: every operation they can come to answers a next state and keeps
`RunInv`, so no such run faults (O53, O54). -/

namespace Sys2Proof.Machine

variable {s t : State}

/-! ### Progress -/

/-- An outcome is a next state, and one of the spec's own runs. -/
def StaysInRun (o : StepOutcome) : Prop := ∃ t, o = .next t ∧ RunInv t

theorem RunInv.stays (h : RunInv s) : StaysInRun (.next s) := ⟨s, rfl, h⟩

theorem StaysInRun.runInv {o : StepOutcome} (h : StaysInRun o) (hn : o = .next t) : RunInv t := by
  obtain ⟨u, rfl, hu⟩ := h
  exact Host.Outcome.next.inj hn ▸ hu

/-- A batch holds at least one frame (R313). -/
theorem StepInv.signalLen_pos (h : StepInv s) : 0 < s.cfg.signalLen := by
  have hc := h.cfgValid
  simp only [configValid, Bool.and_eq_true, decide_eq_true_eq] at hc
  omega

theorem not_readingBatch_of_idle (hp : s.doaPhase = .idle) : ¬ readingBatch s := by
  rintro (hr | hr) <;> exact nomatch hp.symm.trans hr

theorem not_readingBatch_of_compute (hp : s.doaPhase = .compute) : ¬ readingBatch s := by
  rintro (hr | hr) <;> exact nomatch hp.symm.trans hr

theorem written_zero {α : Type} (st : Store α) : written st 0 :=
  fun _ hi => absurd hi (Nat.not_lt_zero _)

/-! ### Updates outside what the clauses of a run read -/

theorem RunInv.enqueueMessage (h : RunInv s) {m : Message}
    (hm : m.wellFormed s.cfg.signalLen = true) : RunInv (enqueueMessage m s) := by
  have hstep := h.toStepInv.enqueueMessage hm
  rcases enqueueMessage_cases m s with ⟨-, -, e⟩ | ⟨-, -, e⟩ | ⟨-, e⟩ <;> rw [e] at hstep ⊢ <;>
    exact { h with toStepInv := hstep }

theorem RunInv.deliverMessage (h : RunInv s) (m : Message) : RunInv (deliverMessage m s) := by
  have hstep := h.toStepInv.deliverMessage m
  rcases deliverMessage_cases m s with ⟨_, -, -, e⟩ | ⟨_, -, -, e⟩ | ⟨-, e⟩ <;> rw [e] at hstep ⊢ <;>
    exact { h with toStepInv := hstep }

theorem RunInv.handleResult (h : RunInv s) (r : FeedResult) : RunInv (handleResult r s) := by
  rcases handleResult_cases r s with ⟨m, -, e⟩ | e | ⟨k, e⟩ <;> rw [e]
  · exact h.deliverMessage m
  · exact h
  · exact { h with }

theorem RunInv.feedChunk (h : RunInv s) (chunk : List Byte) : RunInv (feedChunk chunk s) :=
  feedChunk_induct s RunInv chunk
    { h with rxBound := feedRounds_acc_le _ _ _ _ h.rxBound }
    (fun r _ ht => ht.handleResult r)

theorem RunInv.stepAxis (h : RunInv s) (a : Axis) : RunInv (stepAxis a s) :=
  { h with toStepInv := h.toStepInv.stepAxis a }

theorem RunInv.schedule (h : RunInv s) {rest : List Move} (hr : ∀ m ∈ rest, m ∈ s.sched) :
    RunInv { s with sched := rest } :=
  { h with noInvoke := fun l bs hm => h.noInvoke l bs (hr _ hm) }

/-! ### Capture -/

theorem written_buf_writeFrame {m : Memory} {d : Fin 2} {n : Nat} (h : written (m.buf d) n)
    (b : Fin 2) (i : Nat) (f : Frame) : written ((m.writeFrame b i f).buf d) n := by
  rw [Memory.buf_writeFrame]
  split
  next hd => exact written_write (hd ▸ h) i f
  next => exact h

/-- A frame is captured only while capture is not held, so the paused variant's clauses stay. -/
theorem RunInv.captureFrame (h : RunInv s) (hp : s.capPaused = false) (f : Frame) :
    RunInv (captureFrame f s) := by
  have hstep := h.toStepInv.captureFrame f
  rcases captureFrame_cases f s with ⟨hw, e⟩ | ⟨-, e⟩ <;> rw [e] at hstep ⊢
  · exact
      { h with
        toStepInv := hstep
        batchPending := fun hb => by
          rcases Bool.or_eq_true_iff.mp hb with hb | hb
          · exact absurd (h.batchPending hb) (Nat.ne_of_lt hw)
          · exact beq_iff_eq.mp hb
        activeWritten := by
          show written ((s.mem.writeFrame _ _ f).buf s.capActive) _
          rw [Memory.buf_writeFrame, if_pos rfl]
          exact written_write_next h.activeWritten f
        readyWritten := fun hr => written_buf_writeFrame (h.readyWritten hr) _ _ _
        newestWritten := fun hd => written_buf_writeFrame (h.newestWritten hd) _ _ _
        srcWritten := fun hd => written_buf_writeFrame (h.srcWritten hd) _ _ _
        rawWritten := fun hd => by simpa using h.rawWritten hd
        chWritten := fun hd => by simpa using h.chWritten hd
        chDone := fun hd => by simpa using h.chDone hd
        chAll := fun hd => by simpa using h.chAll hd
        pauseNoBatch := fun _ hp' => nomatch hp.symm.trans hp' }
  · exact { h with }

/-- With `PAUSE_FOR_DOA` a pended batch finds the DoA task at rest and no reference outstanding
(R258(d)). -/
theorem RunInv.taskAtRest (h : RunInv s) (hp : s.pendBatch = true) (hpause : s.cfg.pauseForDoa = true) :
    s.pendDoa = false ∧ s.doaPhase = .idle ∧ s.capOut = false := by
  have hheld : ¬ (s.pendDoa = true ∨ s.doaPhase ≠ .idle) := fun hrun => by
    have hnone := h.pauseNoBatch hpause (h.pauseHeld hpause hrun)
    exact nomatch hnone.symm.trans hp
  obtain ⟨hd, hi⟩ := not_or.mp hheld
  have hi : s.doaPhase = .idle := not_not.mp hi
  refine ⟨Bool.eq_false_iff.mpr hd, hi, Bool.eq_false_iff.mpr fun hout => ?_⟩
  exact hd ((h.pauseOut hpause hout).resolve_right (not_readingBatch_of_idle hi))

/-- The full buffer becomes the ready one: whatever the task still reads, a swap under it has set
`G.OVERRUN` (R71). -/
theorem RunInv.handOver (h : RunInv s) (hp : s.pendBatch = true) : RunInv (handOver s) :=
  { h with
    wrBound := Nat.zero_le _
    batchPending := fun hb => nomatch hb
    activeWritten := written_zero _
    readyWritten := fun _ => by
      show written (s.mem.buf (otherBuffer (otherBuffer s.capActive))) _
      rw [otherBuffer_otherBuffer]
      exact h.batchPending hp ▸ h.activeWritten
    newestWritten := fun _ => h.batchPending hp ▸ h.activeWritten
    ownership := fun ho hr => by
      obtain ⟨ho, hout⟩ := Bool.or_eq_false_iff.mp ho
      exact nomatch hout.symm.trans (h.ownership ho hr).1
    newestReady := fun _ _ => ⟨rfl, (otherBuffer_otherBuffer _).symm⟩
    pauseNoOverrun := fun hpause =>
      Bool.or_eq_false_iff.mpr ⟨h.pauseNoOverrun hpause, (h.taskAtRest hp hpause).2.2⟩
    pauseHeld := fun hpause _ => Bool.or_eq_true_iff.mpr (.inl hpause)
    pauseNoBatch := fun _ _ => rfl
    pauseOneRun := fun hpause hrun => absurd (h.taskAtRest hp hpause).2.1 hrun
    pauseOut := fun _ _ => .inl rfl }

theorem RunInv.execHCaptureComplete (h : RunInv s) (hp : s.pendBatch = true) :
    StaysInRun (execHCaptureComplete s) := by
  rw [execHCaptureComplete_eq, if_pos (h.batchPending hp)]
  exact (h.handOver hp).stays

/-! ### Link handlers and the tasks of levels 4 to 6 -/

theorem RunInv.execHTxComplete (h : RunInv s) : StaysInRun (execHTxComplete s) :=
  RunInv.stays { h with txcBusy := fun hp => nomatch hp }

theorem RunInv.execHRx (h : RunInv s) : StaysInRun (execHRx s) := by
  unfold Machine.execHRx
  split
  next => exact h.stays
  next chunk rest _ =>
    have htaken : RunInv { s with linkRxq := rest } := { h with }
    exact (htaken.feedChunk chunk).stays

/-- A fresh batch begins while no run of the DoA task is at hand (R282: level 3 goes before
level 4). -/
theorem RunInv.startCapture (h : RunInv s) (hd : s.pendDoa = false) (hi : s.doaPhase = .idle) :
    RunInv (startCapture s) := by
  rcases startCapture_cases s with ⟨-, e⟩ | ⟨-, e⟩ <;> rw [e]
  · exact h
  · exact
      { h with
        wrBound := Nat.zero_le _
        batchPending := fun hb => nomatch hb
        activeWritten := written_zero _
        pauseHeld := fun _ hrun => by
          rcases hrun with hrun | hrun
          · exact nomatch hd.symm.trans hrun
          · exact absurd hi hrun
        pauseNoBatch := fun _ _ => rfl }

/-- The state of a run in which the DoA task has nothing to do. -/
structure RunAtRest (s : State) : Prop extends RunInv s where
  noneWaiting : s.pendDoa = false
  noneRunning : s.doaPhase = .idle

theorem RunAtRest.writeGoal (h : RunAtRest s) (a : Axis) (degrees : Angle) :
    RunAtRest (writeGoal a degrees s) :=
  { h with toStepInv := h.toStepInv.writeGoal a degrees }

theorem RunAtRest.setSampling (h : RunAtRest s) (en : Bool) :
    RunAtRest (if en then startCapture s else stopCapture s) := by
  cases en with
  | true =>
    exact
      { h.toRunInv.startCapture h.noneWaiting h.noneRunning with
        noneWaiting := (startCapture_pendDoa s).trans h.noneWaiting
        noneRunning := (startCapture_doaPhase s).trans h.noneRunning }
  | false => exact { h with }

theorem RunAtRest.applyCommand (h : RunAtRest s) (c : Command) : RunInv (applyCommand c s) := by
  have hpan := whenPresent_cases s RunAtRest c.panDegrees _ h (h.writeGoal .pan)
  have htilt := whenPresent_cases _ RunAtRest c.tiltDegrees _ hpan (hpan.writeGoal .tilt)
  have hen := whenPresent_cases _ RunAtRest c.samplingEnabled
    (fun en t => if en then Machine.startCapture t else Machine.stopCapture t) htilt htilt.setSampling
  exact hen.toRunInv.enqueueMessage rfl

theorem RunInv.execTCommand (h : RunInv s) (hd : s.pendDoa = false) (hi : s.doaPhase = .idle) :
    StaysInRun (execTCommand s) := by
  unfold Machine.execTCommand
  split
  next => exact h.stays
  next c rest hq =>
    have hcap := h.cmdCap
    rw [hq] at hcap
    have htaken : RunAtRest { s with cmdq := rest } :=
      { h with cmdCap := Nat.le_of_succ_le hcap, noneWaiting := hd, noneRunning := hi }
    exact (htaken.applyCommand c).stays

theorem RunInv.execTServoTick (h : RunInv s) : StaysInRun (execTServoTick s) := by
  have hcleared : RunInv { s with pendStick := false } := { h with }
  exact ((hcleared.stepAxis .pan).stepAxis .tilt).stays

theorem execTTransmit_isNext (s : State) : ∃ t, execTTransmit s = .next t := by
  unfold execTTransmit
  split
  · exact ⟨_, rfl⟩
  · split <;> exact ⟨_, rfl⟩

theorem RunInv.execTTransmit (h : RunInv s) : StaysInRun (execTTransmit s) := by
  obtain ⟨t, hn⟩ := execTTransmit_isNext s
  have hstep := h.toStepInv.execTTransmit hn
  refine ⟨t, hn, ?_⟩
  rcases execTTransmit_next hn with rfl | ⟨m, rest, -, rfl⟩ | ⟨m, rest, -, rfl⟩
  · exact h
  · exact { h with toStepInv := hstep, txcBusy := fun _ => rfl }
  · exact { h with toStepInv := hstep, txcBusy := fun _ => rfl }

end Sys2Proof.Machine
end

section
/-! The runs of the spec's own moves, continued: the DoA task finds every element it reads written and
every lag in the window, phase by phase; then every step (O53, O54). -/

namespace Sys2Proof.Machine

variable {s t : State}

/-! ### The lag window (R179, R180) -/

/-- The table has an odd length of at least 3 (00_scope R6, R313). -/
theorem StepInv.tableLength (h : StepInv s) : s.cfg.k % 2 = 1 ∧ 3 ≤ s.cfg.k := by
  have hc := h.cfgValid
  simp only [configValid, Bool.and_eq_true, decide_eq_true_eq, beq_iff_eq, geometryK] at hc
  omega

/-- `trem` is the remainder with the sign of the dividend, smaller than the divisor. -/
theorem trem_eq_tmod (a b : Int) : trem a b = a.tmod b := (Int.tmod_def a b).symm

theorem trem_bounds_of_pos {a b : Int} (ha : 0 ≤ a) (hb : 0 < b) : 0 ≤ trem a b ∧ trem a b < b := by
  rw [trem_eq_tmod]
  exact ⟨Int.tmod_nonneg b ha, Int.tmod_lt_of_pos a hb⟩

theorem trem_neg_neg (a b : Int) : trem (-a) (-b) = -trem a b := by
  rw [trem_eq_tmod, trem_eq_tmod, Int.tmod_neg, Int.neg_tmod]

/-- The fold ends in the window, from either side. -/
theorem foldLag_inLagWindow {k : Nat} (hk : 3 ≤ k) (lag : Int) :
    inLagWindow k (foldLag k lag) = true := by
  have hhalf : 0 < ((k / 2 : Nat) : Int) := by omega
  unfold inLagWindow foldLag
  simp only [decide_eq_true_eq]
  split
  · have := trem_bounds_of_pos (a := lag) (by omega) hhalf
    omega
  · split
    · have := trem_bounds_of_pos (a := -lag) (by omega) hhalf
      have hsign := trem_neg_neg (-lag) ((k / 2 : Nat) : Int)
      rw [Int.neg_neg] at hsign
      omega
    · omega

/-- A lag of the window has an entry in a table of odd length. -/
theorem lagIndex_lt {k : Nat} {lag : Int} (hk : k % 2 = 1) (h : inLagWindow k lag = true) :
    lagIndex k lag < k := by
  have hw := of_decide_eq_true h
  unfold lagIndex
  omega

/-- The lookup of a folded lag always answers a bearing. -/
theorem StepInv.withAngle_reducedLag (h : StepInv s) (lag : Int) :
    ∃ d : Byte, d.toNat ≤ 180 ∧
      ∀ k : Byte → StepOutcome, withAngle s (reducedLag s.cfg lag) k = k d := by
  obtain ⟨hodd, hk⟩ := h.tableLength
  have hwindow : inLagWindow s.cfg.k (reducedLag s.cfg lag) = true := foldLag_inLagWindow hk lag
  have hlt : lagIndex s.cfg.k (reducedLag s.cfg lag) < s.lagTab.length := by
    rw [h.table, genLagTable_length]
    exact lagIndex_lt hodd hwindow
  obtain ⟨d, hd⟩ : ∃ d, s.lagTab[lagIndex s.cfg.k (reducedLag s.cfg lag)]? = some d :=
    ⟨_, List.getElem?_eq_getElem hlt⟩
  refine ⟨d, toNat_le_of_genLagTable (h.table ▸ hd), fun k => ?_⟩
  rw [withAngle, if_pos hwindow, hd]
  rfl

/-! ### Starting, and moving inside a phase (R254 to R256) -/

/-- The start step takes the batch that waits, which is the ready one unless `G.OVERRUN` is set. -/
theorem RunInv.doaStart (h : RunInv s) (hd : s.pendDoa = true) : RunInv (doaStart s) := by
  have hphase : (Machine.doaStart s).doaPhase = .copyTx ∨ (Machine.doaStart s).doaPhase = .demux := by
    rw [Machine.doaStart]
    cases s.cfg.sendSamples with
    | true => exact .inl rfl
    | false => exact .inr rfl
  exact
    { h with
      toStepInv := h.toStepInv.doaStart
      newestWritten := fun hd' => nomatch hd'
      srcWritten := fun _ => h.newestWritten hd
      indexInside := fun _ => h.toStepInv.signalLen_pos
      copyChannel := fun _ => rfl
      rawWritten := fun _ => written_zero _
      chWritten := fun _ => written_zero _
      chDone := fun _ c hc => absurd hc (Nat.not_lt_zero _)
      chAll := fun hc => by rcases hphase with hp | hp <;> rw [hp] at hc <;> cases hc
      ownership := fun ho _ => ⟨(h.newestReady ho hd).1, (h.newestReady ho hd).2, rfl⟩
      newestReady := fun _ hd' => nomatch hd'
      pauseHeld := fun hpause _ => h.pauseHeld hpause (.inl hd)
      pauseOneRun := fun _ _ => rfl
      pauseOut := fun _ _ => .inr hphase }

/-- The index may stand at any place up to which the phase's own store is written. -/
theorem RunInv.setIndex (h : RunInv s) {i : Nat} (hi : i < s.cfg.signalLen)
    (hraw : s.doaPhase = .copyTx → written s.mem.raw i)
    (hch : s.doaPhase = .demux → written (s.mem.ch.get s.doaC) i) :
    RunInv { s with doaI := i } :=
  { h with
    doaIBound := Nat.le_of_lt hi
    indexInside := fun _ => hi
    rawWritten := hraw
    chWritten := hch }

theorem RunInv.setSum (h : RunInv s) (sum : Acc) : RunInv { s with dmxSum := sum } := { h with }

/-! ### The `CopyTx` phase (R255) -/

theorem RunInv.writeRaw (h : RunInv s) {i : Nat} (hi : i < s.cfg.signalLen) (f : Frame) :
    RunInv { s with mem := s.mem.writeRaw i f } :=
  { h with
    memWf := Memory.wf_writeRaw h.memWf ..
    bufBound := by simpa using h.bufBound
    rawBound := indexedBelow_write h.rawBound hi f
    activeWritten := by simpa using h.activeWritten
    readyWritten := by simpa using h.readyWritten
    newestWritten := by simpa using h.newestWritten
    srcWritten := fun hr => by simpa using h.srcWritten hr
    rawWritten := fun hp => written_write (h.rawWritten hp) i f }

/-- With the copy complete the task goes on to channel 0. -/
theorem RunInv.beginDemux (h : RunInv s) (hp : s.doaPhase = .copyTx) :
    RunInv { s with doaI := 0, doaPhase := .demux } :=
  have hread : readingBatch s := .inl hp
  have hrun : s.doaPhase ≠ .idle := by rw [hp]; exact nofun
  { h with
    doaIBound := Nat.zero_le _
    srcWritten := fun _ => h.srcWritten hread
    indexInside := fun _ => h.toStepInv.signalLen_pos
    copyChannel := fun hp' => nomatch hp'
    rawWritten := fun hp' => nomatch hp'
    chWritten := fun _ => written_zero _
    chDone := fun _ c hc => by
      rw [show s.doaC = 0 from h.copyChannel hp] at hc
      exact absurd hc (Nat.not_lt_zero _)
    chAll := fun hp' => nomatch hp'
    ownership := fun ho _ => h.ownership ho hread
    pauseHeld := fun hpause _ => h.pauseHeld hpause (.inr hrun)
    pauseOneRun := fun hpause _ => h.pauseOneRun hpause hrun
    pauseOut := fun _ _ => .inr (.inr rfl) }

/-- Queueing leaves the phase alone, so it may as well come after the phase change. -/
theorem rawQueued_eq (batch : List Frame) (s : State) : rawQueued batch s =
    enqueueMessage (.samples batch) { s with doaI := 0, doaPhase := .demux } := by
  unfold rawQueued Machine.enqueueMessage
  simp only [isSamples, if_true]
  split <;> rfl

theorem doaCopy_of_readFrame {f : Frame} (hf : s.mem.readFrame s.doaSrc s.doaI = some f) :
    doaCopy s = if s.doaI + 1 = s.cfg.signalLen then doaQueueRaw (frameCopied f s)
      else .next (frameCopied f s) := by
  rw [doaCopy, hf]
  rfl

theorem doaQueueRaw_of_written (h : written s.mem.raw s.cfg.signalLen) :
    ∃ batch, batch.length = s.cfg.signalLen ∧ doaQueueRaw s = .next (rawQueued batch s) := by
  obtain ⟨batch, hb⟩ := (Store.readAll_isSome ..).mpr h
  refine ⟨batch, ((Store.readAll_eq_some ..).mp hb).1, ?_⟩
  rw [doaQueueRaw, hb]
  rfl

theorem RunInv.doaCopy (h : RunInv s) (hp : s.doaPhase = .copyTx) : StaysInRun (doaCopy s) := by
  have hi := h.indexInside (.inl hp)
  obtain ⟨f, hf⟩ := Option.isSome_iff_exists.mp (h.srcWritten (.inl hp) s.doaI hi)
  have hw : RunInv { s with mem := s.mem.writeRaw s.doaI f } := h.writeRaw hi f
  have hraw : written (s.mem.writeRaw s.doaI f).raw (s.doaI + 1) :=
    written_write_next (h.rawWritten hp) f
  rw [doaCopy_of_readFrame hf]
  split
  next hlast =>
    obtain ⟨batch, hb, e⟩ := doaQueueRaw_of_written (s := frameCopied f s) (hlast ▸ hraw)
    rw [e, rawQueued_eq]
    exact ((hw.beginDemux hp).enqueueMessage (m := .samples batch) (beq_iff_eq.mpr hb)).stays
  next hlast =>
    have hnext : s.doaI + 1 < s.cfg.signalLen := by omega
    exact (hw.setIndex hnext (fun _ => hraw)
      (fun hp' => nomatch hp.symm.trans hp')).stays

/-! ### The `Demux` phase (R256) -/

theorem written_get_set {ch : Channels} {c : Fin 4} {st : Store Sample} {d : Fin 4} {n : Nat}
    (hst : d = c → written st n) (hd : written (ch.get d) n) : written ((ch.set c st).get d) n := by
  rw [Channels.get_set]
  split
  next e => exact hst e
  next => exact hd

/-- New contents of one series that leave no sample below `SIGNAL_LEN` without its value. -/
theorem RunInv.setChannel (h : RunInv s) {c : Fin 4} {st : Store Sample}
    (hstep : StepInv { s with mem := { s.mem with ch := s.mem.ch.set c st } })
    (hst : ∀ n, n ≤ s.cfg.signalLen → written (s.mem.ch.get c) n → written st n) :
    RunInv { s with mem := { s.mem with ch := s.mem.ch.set c st } } :=
  have hkept : ∀ d n, n ≤ s.cfg.signalLen → written (s.mem.ch.get d) n →
      written ((s.mem.ch.set c st).get d) n :=
    fun _ n hn hd => written_get_set (fun e => hst n hn (e ▸ hd)) hd
  { h with
    toStepInv := hstep
    chWritten := fun hp => hkept _ _ h.doaIBound (h.chWritten hp)
    chDone := fun hp d hd => hkept _ _ (Nat.le_refl _) (h.chDone hp d hd)
    chAll := fun hp d => hkept _ _ (Nat.le_refl _) (h.chAll hp d) }

/-- One sample demultiplexed, the index not yet moved. -/
def sampleStored (v : Sample) (s : State) : State :=
  { s with mem := s.mem.writeCh s.doaC s.doaI v, dmxSum := s.dmxSum + v.signExtend 64 }

theorem sampleTaken_eq (v : Sample) (s : State) :
    sampleTaken v s = { sampleStored v s with doaI := s.doaI + 1 } := rfl

/-- The index enters nothing of the mean's removal, which clears it. -/
theorem meanRemoved_sampleTaken (xs : List Sample) (v : Sample) (s : State) :
    meanRemoved xs (sampleTaken v s) = meanRemoved xs (sampleStored v s) := rfl

theorem RunInv.sampleStored (h : RunInv s) (hi : s.doaI < s.cfg.signalLen) (v : Sample) :
    RunInv (sampleStored v s) :=
  (h.setChannel { h.toStepInv.sampleTaken hi v with doaIBound := h.doaIBound }
    (fun _ _ hw => written_write hw _ _)).setSum _

theorem written_sampleStored (v : Sample) (hw : written (s.mem.ch.get s.doaC) s.doaI) :
    written ((sampleStored v s).mem.ch.get s.doaC) (s.doaI + 1) := by
  rw [Machine.sampleStored, Memory.ch_writeCh, Channels.get_set, if_pos rfl]
  exact written_write_next hw v

/-- A whole channel written anew. -/
theorem RunInv.setCh (h : RunInv s) (c : Fin 4) {xs : List Sample}
    (hx : xs.length = s.cfg.signalLen) : RunInv { s with mem := s.mem.setCh c xs } :=
  h.setChannel (h.toStepInv.setCh c hx)
    (fun _ hn _ => written_mono (written_ofList xs) (hx ▸ hn))

/-- After a whole channel: the next one, or, with all four done, the release and `Compute`. -/
theorem RunInv.channelEnded (h : RunInv s) (hp : s.doaPhase = .demux) (hi : s.doaI = 0)
    (hw : written (s.mem.ch.get s.doaC) s.cfg.signalLen) : RunInv (channelEnded s) := by
  have hread : readingBatch s := .inr hp
  have hrun : s.doaPhase ≠ .idle := by rw [hp]; exact nofun
  have hstep := h.toStepInv.channelEnded
  unfold Machine.channelEnded at hstep ⊢
  split
  next hc =>
    rw [if_pos hc] at hstep
    exact
      { h with
        toStepInv := hstep
        srcWritten := fun hr => absurd hr (not_readingBatch_of_compute rfl)
        indexInside := fun hr => absurd hr (not_readingBatch_of_compute rfl)
        copyChannel := fun hp' => nomatch hp'
        rawWritten := fun hp' => nomatch hp'
        chWritten := fun hp' => nomatch hp'
        chDone := fun hp' => nomatch hp'
        chAll := fun _ c => by
          by_cases hlt : c < s.doaC
          · exact h.chDone hp c hlt
          · obtain rfl : c = s.doaC := by omega
            exact hw
        ownership := fun _ hr => absurd hr (not_readingBatch_of_compute rfl)
        newestReady := fun ho hd => by
          obtain ⟨-, -, hnone⟩ := h.ownership ho hread
          exact nomatch hnone.symm.trans hd
        pauseHeld := fun hpause _ => h.pauseHeld hpause (.inr hrun)
        pauseOneRun := fun hpause _ => h.pauseOneRun hpause hrun
        pauseOut := fun _ hout => nomatch hout }
  next hc =>
    rw [if_neg hc] at hstep
    exact
      { h with
        toStepInv := hstep
        copyChannel := fun hp' => nomatch hp.symm.trans hp'
        chWritten := fun _ => by
          show written _ s.doaI
          rw [hi]
          exact written_zero _
        chDone := fun _ c (hlt : c < s.doaC + 1) => by
          by_cases hdone : c < s.doaC
          · exact h.chDone hp c hdone
          · obtain rfl : c = s.doaC := by omega
            exact hw }

theorem doaDemux_of_readSample {v : Sample}
    (hv : s.mem.readSample s.doaSrc s.doaI s.doaC = some v) :
    doaDemux s = if s.doaI + 1 = s.cfg.signalLen then doaEndChannel (sampleTaken v s)
      else .next (sampleTaken v s) := by
  rw [doaDemux, hv]
  rfl

theorem doaEndChannel_of_written (h : written (s.mem.ch.get s.doaC) s.cfg.signalLen) :
    ∃ xs, xs.length = s.cfg.signalLen ∧
      doaEndChannel s = .next (channelEnded (meanRemoved xs s)) := by
  obtain ⟨xs, hx⟩ := (Store.readAll_isSome ..).mpr h
  have hnext : ∃ t, doaEndChannel s = .next t := by
    rw [doaEndChannel, hx]
    simp only [orNoValue]
    split <;> exact ⟨_, rfl⟩
  obtain ⟨t, hn⟩ := hnext
  obtain ⟨ys, hy, rfl⟩ := doaEndChannel_next hn
  exact ⟨ys, hy, hn⟩

/-- Taking the mean off a whole channel leaves it written, with the index back at 0. -/
theorem RunInv.meanRemoved (h : RunInv s) {xs : List Sample} (hx : xs.length = s.cfg.signalLen) :
    RunInv (meanRemoved xs s) := by
  have hset := h.setCh s.doaC (xs := xs.map (removeMean (dcMean s.cfg.signalLen s.dmxSum)))
    (by simpa using hx)
  exact (hset.setIndex h.toStepInv.signalLen_pos (fun _ => written_zero _)
    (fun _ => written_zero _)).setSum 0

theorem written_meanRemoved (s : State) {xs : List Sample} (hx : xs.length = s.cfg.signalLen) :
    written ((meanRemoved xs s).mem.ch.get s.doaC) s.cfg.signalLen := by
  show written ((s.mem.ch.set _ (Store.ofList _)).get s.doaC) _
  rw [Channels.get_set, if_pos rfl]
  exact written_mono (written_ofList _) (by rw [List.length_map, hx])

theorem RunInv.doaDemux (h : RunInv s) (hp : s.doaPhase = .demux) : StaysInRun (doaDemux s) := by
  have hi := h.indexInside (.inr hp)
  obtain ⟨f, hf⟩ := Option.isSome_iff_exists.mp (h.srcWritten (.inr hp) s.doaI hi)
  have hv : s.mem.readSample s.doaSrc s.doaI s.doaC = some (f.get s.doaC) :=
    Option.map_eq_some_iff.mpr ⟨f, hf, rfl⟩
  have hstored := h.sampleStored hi (f.get s.doaC)
  have hch := written_sampleStored (f.get s.doaC) (h.chWritten hp)
  rw [doaDemux_of_readSample hv]
  split
  next hlast =>
    obtain ⟨xs, hx, e⟩ := doaEndChannel_of_written (s := sampleTaken (f.get s.doaC) s) (hlast ▸ hch)
    rw [e, meanRemoved_sampleTaken]
    exact ((hstored.meanRemoved hx).channelEnded hp rfl (written_meanRemoved _ hx)).stays
  next hlast =>
    have hnext : s.doaI + 1 < s.cfg.signalLen := by omega
    rw [sampleTaken_eq]
    exact (hstored.setIndex hnext (fun hp' => nomatch hp.symm.trans hp') (fun _ => hch)).stays

/-! ### The `Compute` phase (R257) -/

/-- With every channel written an axis gets its lag and its bearing. -/
theorem RunInv.doaAxis (h : RunInv s) (hp : s.doaPhase = .compute) (a : Axis) :
    ∃ t, doaAxis a s = .next t ∧ RunInv t ∧ t.doaPhase = .compute := by
  obtain ⟨xs, hx⟩ := (Store.readAll_isSome ..).mpr (h.chAll hp (s.cfg.pair a).1)
  obtain ⟨ys, hy⟩ := (Store.readAll_isSome ..).mpr (h.chAll hp (s.cfg.pair a).2)
  obtain ⟨d, hd, hlookup⟩ := h.toStepInv.withAngle_reducedLag (peakLag s.cfg xs ys)
  refine ⟨axisComputed a xs ys d s, ?_, ?_, hp⟩
  · rw [Machine.doaAxis, withSeries_of_value (x := .channel _) hx,
      withSeries_of_value (x := .channel _) hy]
    exact hlookup _
  · exact { h with toStepInv := h.toStepInv.axisComputed a xs ys hd }

/-- The end of a run of the task: capture goes on, and no reference is outstanding (R258(d)). -/
theorem RunInv.endTask (h : RunInv s) (hp : s.doaPhase = .compute) :
    RunInv { s with capPaused := false, doaPhase := .idle } :=
  { h with
    srcWritten := fun hr => absurd hr (not_readingBatch_of_idle rfl)
    indexInside := fun hr => absurd hr (not_readingBatch_of_idle rfl)
    copyChannel := fun hp' => nomatch hp'
    rawWritten := fun hp' => nomatch hp'
    chWritten := fun hp' => nomatch hp'
    chDone := fun hp' => nomatch hp'
    chAll := fun hp' => nomatch hp'
    ownership := fun _ hr => absurd hr (not_readingBatch_of_idle rfl)
    pauseHeld := fun hpause hrun => by
      have hnone : s.pendDoa = false := h.pauseOneRun hpause (by rw [hp]; exact nofun)
      rcases hrun with hrun | hrun
      · exact nomatch hnone.symm.trans hrun
      · exact absurd rfl hrun
    pauseNoBatch := fun _ hp' => nomatch hp'
    pauseOneRun := fun _ hrun => absurd rfl hrun
    pauseOut := fun hpause hout => by
      exact .inl ((h.pauseOut hpause hout).resolve_right (not_readingBatch_of_compute hp)) }

theorem RunInv.doaCompute (h : RunInv s) (hp : s.doaPhase = .compute) :
    StaysInRun (doaCompute s) := by
  obtain ⟨u, hpan, hu, hpu⟩ := h.doaAxis hp .pan
  obtain ⟨v, htilt, hv, hpv⟩ := hu.doaAxis hpu .tilt
  refine ⟨_, ?_, hv.endTask hpv⟩
  rw [Machine.doaCompute, hpan]
  show thenDo (Machine.doaAxis .tilt u) _ = _
  rw [htilt]
  rfl

theorem RunInv.execTDoa (h : RunInv s) (hrun : s.pendDoa = true ∨ s.doaPhase ≠ .idle) :
    StaysInRun (execTDoa s) := by
  unfold Machine.execTDoa
  split
  next hp => exact (h.doaStart (hrun.resolve_right (not_not.mpr hp))).stays
  next hp => exact h.doaCopy hp
  next hp => exact h.doaDemux hp
  next hp => exact h.doaCompute hp

/-! ### Every turn and every step -/

theorem RunInv.level2Step (h : RunInv s) (txFirst : Bool) : StaysInRun (level2Step txFirst s) := by
  rcases level2Step_cases txFirst s with ⟨-, e⟩ | e <;> rw [e]
  · exact h.execHTxComplete
  · exact h.execHRx

theorem RunInv.processorStep (h : RunInv s) (txFirst : Bool) :
    StaysInRun (processorStep txFirst s) := by
  rcases processorStep_cases txFirst s with ⟨hb, e⟩ | ⟨-, -, e⟩ | ⟨-, -, -, hrun, e⟩ |
    ⟨-, -, -, hd, hi, -, e⟩ | ⟨-, -, -, -, -, -, -, e⟩ | ⟨-, -, -, -, -, -, -, -, e⟩ |
    ⟨-, -, -, -, -, -, -, -, e⟩ <;> rw [e]
  · exact h.execHCaptureComplete hb
  · exact h.level2Step txFirst
  · exact h.execTDoa hrun
  · exact h.execTCommand hd hi
  · exact h.execTServoTick
  · exact h.execTTransmit
  · exact h.stays

theorem RunInv.unscheduledStep (h : RunInv s) : StaysInRun (unscheduledStep s) := by
  unfold Machine.unscheduledStep
  split
  · have hdrawn : RunInv { s with l2Draws := s.l2Draws + 1 } := { h with }
    exact hdrawn.processorStep _
  · exact h.processorStep true

theorem RunInv.exitReset (h : RunInv s) : StaysInRun (exitReset s) := by
  rw [Machine.exitReset, if_pos h.cfgValid]
  exact RunInv.stays { runInv_resetWith h.cfgValid h.noInvoke s.l2Draws with }

/-- The two turns that are moves only under a condition (R274), outside it (log 11). -/
def NotEnabled (m : Move) (s : State) : Prop :=
  (m = .drain ∧ (s.txBusy = false ∨ s.pendTxc = true)) ∨
  (∃ f, m = .tick f) ∧ (s.capEn = false ∨ s.capPaused = true)

theorem RunInv.tickMove (h : RunInv s) (f : Frame) :
    StaysInRun (tickMove f s) ∨
      (s.capEn = false ∨ s.capPaused = true) ∧ tickMove f s = .refused .moveNotEnabled := by
  by_cases hen : tickEnabled s = true
  · have hboth := hen
    simp only [tickEnabled, Bool.and_eq_true, Bool.not_eq_true'] at hboth
    refine .inl ⟨_, (tickMove_eq_next f s _).mpr ⟨hboth.1, hboth.2, rfl⟩, ?_⟩
    exact h.captureFrame hboth.2 f
  · refine .inr ⟨?_, by rw [Machine.tickMove, if_neg hen]⟩
    simpa [tickEnabled, imp_iff_not_or] using hen

theorem RunInv.drainLink (h : RunInv s) :
    StaysInRun (drainLink s) ∨
      (s.txBusy = false ∨ s.pendTxc = true) ∧ drainLink s = .refused .moveNotEnabled := by
  by_cases hen : drainEnabled s = true
  · have hboth := hen
    simp only [drainEnabled, Bool.and_eq_true, Bool.not_eq_true'] at hboth
    refine .inl ⟨_, (drainLink_eq_next s _).mpr ⟨hboth.1, hboth.2, rfl⟩, ?_⟩
    exact { h with txcBusy := fun _ => hboth.1 }
  · refine .inr ⟨?_, by rw [Machine.drainLink, if_neg hen]⟩
    simpa [drainEnabled, imp_iff_not_or] using hen

theorem RunInv.runTurn (h : RunInv s) {m : Move} (hm : ∀ l bs, m ≠ .invoke l bs) :
    StaysInRun (runTurn m s) ∨ NotEnabled m s ∧ runTurn m s = .refused .moveNotEnabled := by
  cases m with
  | tick f => exact (h.tickMove f).imp_right fun ⟨hoff, e⟩ => ⟨.inr ⟨⟨f, rfl⟩, hoff⟩, e⟩
  | drain => exact h.drainLink.imp_right fun ⟨hoff, e⟩ => ⟨.inl ⟨rfl, hoff⟩, e⟩
  | deliver chunk => exact .inl (RunInv.stays { h with })
  | servoTick => exact .inl (RunInv.stays { h with })
  | hostSend c => exact .inl (RunInv.stays { h with })
  | hostReceive => exact .inl h.stays
  | sendSync => exact .inl (h.enqueueMessage rfl).stays
  | reset => exact .inl (runInv_resetWith h.cfgValid h.noInvoke s.l2Draws).stays
  | processor txFirst => exact .inl (h.processorStep txFirst)
  | invoke l bs => exact absurd rfl (hm l bs)

/-- A step of a run stays in the run, or its turn is a move outside its enabling condition. -/
theorem RunInv.step (h : RunInv s) :
    StaysInRun (step s) ∨ s.inReset = false ∧ ∃ m rest, s.sched = m :: rest ∧ NotEnabled m s ∧
      step s = .refused .moveNotEnabled := by
  rcases step_cases s with ⟨-, e⟩ | ⟨-, -, e⟩ | ⟨m, rest, hr, hs, e⟩ <;> rw [e]
  · exact .inl h.exitReset
  · exact .inl h.unscheduledStep
  · have hpopped : RunInv { s with sched := rest } :=
      h.schedule fun m' hm' => hs ▸ List.mem_cons_of_mem _ hm'
    have hm : ∀ l bs, m ≠ .invoke l bs := fun l bs hinv =>
      h.noInvoke l bs (by rw [hs, hinv]; exact List.mem_cons_self ..)
    exact (hpopped.runTurn hm).imp_right fun ⟨hoff, e'⟩ => ⟨hr, m, rest, hs, hoff, e'⟩

end Sys2Proof.Machine

open Sys2Proof Sys2Proof.Machine

/-- Settles O53: the step stays in the run, or it has no next state. -/
theorem everyStepKeepsRunInv : Obligations.EveryStepKeepsRunInv := by
  intro s t h hn
  rcases h.step with hstays | ⟨-, m, rest, -, -, e⟩
  · exact hstays.runInv hn
  · exact nomatch hn.symm.trans e

/-- Settles O54: the only turns that leave a run without a next state are the two moves outside their
enabling condition. -/
theorem runsNeverFault : Obligations.RunsNeverFault := by
  intro s h
  rcases h.step with ⟨t, hn, -⟩ | ⟨hr, m, rest, hs, ⟨rfl, hoff⟩ | ⟨⟨f, rfl⟩, hoff⟩, e⟩
  · exact .inl ⟨t, hn⟩
  · exact .inr (.inl ⟨hr, ⟨rest, hs⟩, hoff, e⟩)
  · exact .inr (.inr ⟨hr, ⟨f, rest, hs⟩, hoff, e⟩)
end

section
/-! The encodings, read exactly: one `↔` per reader of the decoder, which answers a value exactly for
the bytes the encoder writes for that value. -/

namespace Sys2Proof

-- One after another, like the tests: many case splits at once ask for many threads.
set_option Elab.async false

variable {n : Nat} {bs rest : List Byte}

/-! ### Integers on the wire -/

@[simp] theorem le16_fromLe16 (b0 b1 : Byte) : le16 (fromLe16 b0 b1) = [b0, b1] := by
  simp only [le16, fromLe16, List.cons.injEq, and_true]
  refine ⟨?_, ?_⟩ <;> ext i hi <;> grind

@[simp] theorem le32_fromLe32 (b0 b1 b2 b3 : Byte) :
    le32 (fromLe32 b0 b1 b2 b3) = [b0, b1, b2, b3] := by
  simp only [le32, fromLe32, List.cons.injEq, and_true]
  refine ⟨?_, ?_, ?_, ?_⟩ <;> ext i hi <;> grind

@[simp] theorem fromLe16_extractLsb' (v : BitVec 16) :
    fromLe16 (v.extractLsb' 0 8) (v.extractLsb' 8 8) = v := by
  unfold fromLe16
  ext i hi
  grind

@[simp] theorem fromLe32_extractLsb' (v : BitVec 32) :
    fromLe32 (v.extractLsb' 0 8) (v.extractLsb' 8 8) (v.extractLsb' 16 8) (v.extractLsb' 24 8) = v := by
  unfold fromLe32
  ext i hi
  grind

theorem toNat_extractLsb'_le16 (v : BitVec 16) :
    (v.extractLsb' 0 8).toNat + 256 * (v.extractLsb' 8 8).toNat = v.toNat := by
  have hv := v.isLt
  simp only [BitVec.extractLsb'_toNat, Nat.shiftRight_eq_div_pow]
  omega

theorem toNat_extractLsb'_le32 (v : BitVec 32) :
    (v.extractLsb' 0 8).toNat + 256 * (v.extractLsb' 8 8).toNat +
      65536 * (v.extractLsb' 16 8).toNat + 16777216 * (v.extractLsb' 24 8).toNat = v.toNat := by
  have hv := v.isLt
  simp only [BitVec.extractLsb'_toNat, Nat.shiftRight_eq_div_pow]
  omega

@[simp] theorem le32_length (v : BitVec 32) : (le32 v).length = 4 := rfl
@[simp] theorem frameBytes_length (f : Frame) : (frameBytes f).length = 8 := rfl

/-! ### Batches and series -/

theorem takeFrames_batchBytes (batch : List Frame) (rest : List Byte) :
    takeFrames batch.length (batchBytes batch ++ rest) = .ok (batch, rest) := by
  induction batch with
  | nil => rfl
  | cons f fs ih =>
    rw [batchBytes, List.flatMap_cons, List.append_assoc, ← batchBytes, List.length_cons]
    simp [frameBytes, le16, takeFrames, ih]

theorem batchBytes_of_takeFrames {batch : List Frame} (h : takeFrames n bs = .ok (batch, rest)) :
    batch.length = n ∧ bs = batchBytes batch ++ rest := by
  induction n, bs using takeFrames.induct generalizing batch with
  | case1 bs =>
    obtain ⟨rfl, rfl⟩ : [] = batch ∧ bs = rest := by simpa [takeFrames] using h
    exact ⟨rfl, rfl⟩
  | case2 n a0 a1 b0 b1 c0 c1 d0 d1 bs fs rest' htail ih =>
    simp only [takeFrames, htail, Except.ok.injEq, Prod.mk.injEq] at h
    obtain ⟨rfl, rfl⟩ := h
    obtain ⟨rfl, rfl⟩ := ih htail
    simp [batchBytes, frameBytes]
  | case3 n a0 a1 b0 b1 c0 c1 d0 d1 bs e htail => simp [takeFrames, htail] at h
  | case4 n bs hshort => simp [takeFrames] at h

theorem takeFrames_eq_ok {batch : List Frame} : takeFrames n bs = .ok (batch, rest) ↔
    batch.length = n ∧ bs = batchBytes batch ++ rest := by
  refine ⟨batchBytes_of_takeFrames, ?_⟩
  rintro ⟨rfl, rfl⟩
  exact takeFrames_batchBytes batch rest

theorem takeSamples_seriesBytes (xs : List Sample) (rest : List Byte) :
    takeSamples xs.length (seriesBytes xs ++ rest) = .ok (xs, rest) := by
  induction xs with
  | nil => rfl
  | cons x xs ih =>
    rw [seriesBytes, List.flatMap_cons, List.append_assoc, ← seriesBytes, List.length_cons]
    simp [le16, takeSamples, ih]

theorem seriesBytes_of_takeSamples {xs : List Sample} (h : takeSamples n bs = .ok (xs, rest)) :
    xs.length = n ∧ bs = seriesBytes xs ++ rest := by
  induction n, bs using takeSamples.induct generalizing xs with
  | case1 bs =>
    obtain ⟨rfl, rfl⟩ : [] = xs ∧ bs = rest := by simpa [takeSamples] using h
    exact ⟨rfl, rfl⟩
  | case2 n a0 a1 bs xs' rest' htail ih =>
    simp only [takeSamples, htail, Except.ok.injEq, Prod.mk.injEq] at h
    obtain ⟨rfl, rfl⟩ := h
    obtain ⟨rfl, rfl⟩ := ih htail
    simp [seriesBytes]
  | case3 n a0 a1 bs e htail => simp [takeSamples, htail] at h
  | case4 n bs hshort => simp [takeSamples] at h

theorem takeSamples_eq_ok {xs : List Sample} : takeSamples n bs = .ok (xs, rest) ↔
    xs.length = n ∧ bs = seriesBytes xs ++ rest := by
  refine ⟨seriesBytes_of_takeSamples, ?_⟩
  rintro ⟨rfl, rfl⟩
  exact takeSamples_seriesBytes xs rest

/-! ### The fields of a `Command` -/

@[simp] theorem takeOpt32_opt32 (v : Option Angle) (rest : List Byte) :
    takeOpt32 (opt32 v ++ rest) = .ok (v, rest) := by
  cases v with
  | none => rfl
  | some v => simp [opt32, le32, takeOpt32]

theorem takeOpt32_eq_ok {v : Option Angle} :
    takeOpt32 bs = .ok (v, rest) ↔ bs = opt32 v ++ rest := by
  refine ⟨fun h => ?_, fun h => h ▸ takeOpt32_opt32 v rest⟩
  cases bs with
  | nil => cases h
  | cons p tail =>
    simp only [takeOpt32] at h
    split_ifs at h with h0 h1
    · cases h; rw [h0]; rfl
    · split at h
      next => cases h; simp [opt32, h1]
      next => cases h

@[simp] theorem takeOptbool_optbool (v : Option Bool) (rest : List Byte) :
    takeOptbool (optbool v ++ rest) = .ok (v, rest) := by
  rcases v with _ | _ | _ <;> rfl

theorem takeOptbool_eq_ok {v : Option Bool} :
    takeOptbool bs = .ok (v, rest) ↔ bs = optbool v ++ rest := by
  refine ⟨fun h => ?_, fun h => h ▸ takeOptbool_optbool v rest⟩
  cases bs with
  | nil => cases h
  | cons p tail =>
    simp only [takeOptbool] at h
    split_ifs at h with h0 h1
    · cases h; rw [h0]; rfl
    · cases tail with
      | nil => cases h
      | cons b tail =>
        simp only [] at h
        split_ifs at h with hb0 hb1
        · cases h; rw [h1, hb0]; rfl
        · cases h; rw [h1, hb1]; rfl

/-- The bytes of a `Command` after its tag. -/
def commandBytes (c : Command) : List Byte :=
  opt32 c.panDegrees ++ opt32 c.tiltDegrees ++ optbool c.samplingEnabled

theorem serialize_command (c : Command) : serialize (.command c) = 0x03 :: commandBytes c := rfl

@[simp] theorem takeCommand_commandBytes (c : Command) : takeCommand (commandBytes c) = .ok c := by
  have hen : takeOptbool (optbool c.samplingEnabled) = .ok (c.samplingEnabled, []) :=
    takeOptbool_eq_ok.mpr (List.append_nil _).symm
  simp [takeCommand, commandBytes, hen]

theorem takeCommand_eq_ok {c : Command} : takeCommand bs = .ok c ↔ bs = commandBytes c := by
  refine ⟨fun h => ?_, fun h => h ▸ takeCommand_commandBytes c⟩
  unfold takeCommand at h
  split at h
  next => cases h
  next pan bs1 hpan =>
    split at h
    next => cases h
    next tilt bs2 htilt =>
      split at h
      next => cases h
      next en hen =>
        cases h
        rw [takeOpt32_eq_ok.mp hpan, takeOpt32_eq_ok.mp htilt, takeOptbool_eq_ok.mp hen]
        simp [commandBytes]
      next => cases h

/-! ### Messages -/

theorem deserialize_serialize {m : Message} (h : m.wellFormed n = true) :
    deserialize n (serialize m) = .ok m := by
  cases m with
  | sync => rfl
  | panTiltStatus pan tilt => simp [deserialize, serialize, le32]
  | samples batch =>
    have hread : takeFrames n (batchBytes batch) = .ok (batch, []) :=
      takeFrames_eq_ok.mpr ⟨eq_of_beq h, (List.append_nil _).symm⟩
    simp [deserialize, serialize, hread]
  | command c => simp [deserialize, serialize_command]

theorem serialize_of_deserialize {m : Message} (h : deserialize n bs = .ok m) :
    m.wellFormed n = true ∧ serialize m = bs := by
  cases bs with
  | nil => cases h
  | cons tag tail =>
    simp only [deserialize] at h
    split_ifs at h with h0 h1 h2 h3
    · split at h
      next => cases h; exact ⟨rfl, by rw [h0]; rfl⟩
      next => cases h
    · split at h
      next => cases h; exact ⟨rfl, by simp [serialize, h1]⟩
      next => cases h
    · split at h
      next batch hread =>
        cases h
        obtain ⟨hlen, hbytes⟩ := takeFrames_eq_ok.mp hread
        exact ⟨beq_iff_eq.mpr hlen, by simp [serialize, h2, hbytes]⟩
      next => cases h
      next => cases h
    · split at h
      next c hread =>
        cases h
        exact ⟨rfl, by rw [serialize_command, h3, takeCommand_eq_ok.mp hread]⟩
      next => cases h

theorem deserialize_eq_ok {m : Message} :
    deserialize n bs = .ok m ↔ m.wellFormed n = true ∧ serialize m = bs := by
  refine ⟨serialize_of_deserialize, ?_⟩
  rintro ⟨hwf, rfl⟩
  exact deserialize_serialize hwf

/-! ### The operands of the operations -/

theorem noMore_eq_ok {i j : Instr} : noMore j bs = .ok i ↔ bs = [] ∧ j = i := by
  cases bs <;> simp [noMore]

@[simp] theorem takeAxis_axisByte (a : Axis) (rest : List Byte) :
    takeAxis (axisByte a :: rest) = .ok (a, rest) := by
  cases a <;> rfl

theorem takeAxis_eq_ok {a : Axis} : takeAxis bs = .ok (a, rest) ↔ bs = axisByte a :: rest := by
  refine ⟨fun h => ?_, fun h => h ▸ takeAxis_axisByte a rest⟩
  cases bs with
  | nil => cases h
  | cons b tail =>
    simp only [takeAxis] at h
    split_ifs at h with h0 h1
    · cases h; rw [h0]; rfl
    · cases h; rw [h1]; rfl

theorem lastInt_eq_ok {v : Int} : lastInt bs = .ok v ↔ intBytes v = bs :=
  ⟨intBytes_of_lastInt, fun h => h ▸ lastInt_intBytes v⟩

@[simp] theorem lastWord_le32 (w : BitVec 32) : lastWord (le32 w) = .ok w :=
  congrArg Except.ok (fromLe32_extractLsb' w)

theorem lastWord_eq_ok {w : BitVec 32} : lastWord bs = .ok w ↔ le32 w = bs := by
  refine ⟨fun h => ?_, fun h => h ▸ lastWord_le32 w⟩
  unfold lastWord at h
  split at h
  next => cases h; exact le32_fromLe32 ..
  next => cases h

theorem takeBatchRef_batchRefBytes {b : BatchRef} (h : b.wellFormed n = true) (rest : List Byte) :
    takeBatchRef n (batchRefBytes b ++ rest) = .ok (b, rest) := by
  match b with
  | .values frames =>
    have hread : takeFrames n (batchBytes frames ++ rest) = .ok (frames, rest) :=
      takeFrames_eq_ok.mpr ⟨eq_of_beq h, rfl⟩
    simp [takeBatchRef, batchRefBytes, hread]
  | .buffer 0 => rfl
  | .buffer 1 => rfl

theorem takeBatchRef_eq_ok {b : BatchRef} : takeBatchRef n bs = .ok (b, rest) ↔
    b.wellFormed n = true ∧ bs = batchRefBytes b ++ rest := by
  refine ⟨fun h => ?_, fun ⟨hwf, hbs⟩ => hbs ▸ takeBatchRef_batchRefBytes hwf rest⟩
  cases bs with
  | nil => cases h
  | cons f tail =>
    simp only [takeBatchRef] at h
    split_ifs at h with h0 h1 h2
    · split at h
      next frames tail' hread =>
        cases h
        obtain ⟨hlen, hbytes⟩ := takeFrames_eq_ok.mp hread
        exact ⟨beq_iff_eq.mpr hlen, by rw [h0, hbytes]; rfl⟩
      next => cases h
    · cases h; exact ⟨rfl, by rw [h1]; rfl⟩
    · cases h; exact ⟨rfl, by rw [h2]; rfl⟩

theorem takeSeriesRef_seriesRefBytes {x : SeriesRef} (h : x.wellFormed n = true)
    (rest : List Byte) : takeSeriesRef n (seriesRefBytes x ++ rest) = .ok (x, rest) := by
  match x with
  | .values xs =>
    have hread : takeSamples n (seriesBytes xs ++ rest) = .ok (xs, rest) :=
      takeSamples_eq_ok.mpr ⟨eq_of_beq h, rfl⟩
    simp [takeSeriesRef, seriesRefBytes, hread]
  | .channel 0 => rfl
  | .channel 1 => rfl
  | .channel 2 => rfl
  | .channel 3 => rfl

theorem takeSeriesRef_eq_ok {x : SeriesRef} : takeSeriesRef n bs = .ok (x, rest) ↔
    x.wellFormed n = true ∧ bs = seriesRefBytes x ++ rest := by
  refine ⟨fun h => ?_, fun ⟨hwf, hbs⟩ => hbs ▸ takeSeriesRef_seriesRefBytes hwf rest⟩
  cases bs with
  | nil => cases h
  | cons f tail =>
    simp only [takeSeriesRef] at h
    split_ifs at h with h0 h1 h2 h3 h4
    · split at h
      next xs tail' hread =>
        cases h
        obtain ⟨hlen, hbytes⟩ := takeSamples_eq_ok.mp hread
        exact ⟨beq_iff_eq.mpr hlen, by rw [h0, hbytes]; rfl⟩
      next => cases h
    · cases h; exact ⟨rfl, by rw [h1]; rfl⟩
    · cases h; exact ⟨rfl, by rw [h2]; rfl⟩
    · cases h; exact ⟨rfl, by rw [h3]; rfl⟩
    · cases h; exact ⟨rfl, by rw [h4]; rfl⟩

/-! ### Instructions whose operands are read by a shared reader -/

variable {i : Instr}

theorem twoSeries_eq_ok {make : SeriesRef → SeriesRef → Instr} : twoSeries n make bs = .ok i ↔
    ∃ x y, (x.wellFormed n = true ∧ y.wellFormed n = true) ∧
      seriesRefBytes x ++ seriesRefBytes y = bs ∧ make x y = i := by
  constructor
  · intro h
    unfold twoSeries at h
    split at h
    next => cases h
    next x bs1 hx =>
      split at h
      next => cases h
      next y bs2 hy =>
        obtain ⟨hwx, rfl⟩ := takeSeriesRef_eq_ok.mp hx
        obtain ⟨hwy, rfl⟩ := takeSeriesRef_eq_ok.mp hy
        obtain ⟨rfl, hi⟩ := noMore_eq_ok.mp h
        exact ⟨x, y, ⟨hwx, hwy⟩, by rw [List.append_nil], hi⟩
  · rintro ⟨x, y, ⟨hwx, hwy⟩, rfl, rfl⟩
    have hy : takeSeriesRef n (seriesRefBytes y) = .ok (y, []) :=
      takeSeriesRef_eq_ok.mpr ⟨hwy, (List.append_nil _).symm⟩
    simp [twoSeries, takeSeriesRef_seriesRefBytes hwx, hy, noMore]

theorem axisWord_eq_ok {make : Axis → BitVec 32 → Instr} : axisWord make bs = .ok i ↔
    ∃ a w, axisByte a :: le32 w = bs ∧ make a w = i := by
  constructor
  · intro h
    unfold axisWord at h
    split at h
    next => cases h
    next a bs1 ha =>
      split at h
      next => cases h
      next w hw =>
        cases h
        exact ⟨a, w, by rw [takeAxis_eq_ok.mp ha, lastWord_eq_ok.mp hw], rfl⟩
  · rintro ⟨a, w, rfl, rfl⟩
    simp [axisWord]

theorem oneInt_eq_ok {make : Int → Instr} : oneInt make bs = .ok i ↔
    ∃ v, intBytes v = bs ∧ make v = i := by
  constructor
  · intro h
    unfold oneInt at h
    split at h
    next => cases h
    next v hv => cases h; exact ⟨v, lastInt_eq_ok.mp hv, rfl⟩
  · rintro ⟨v, rfl, rfl⟩
    simp [oneInt, lastInt_intBytes]

theorem axisInt_eq_ok {make : Axis → Int → Instr} : axisInt make bs = .ok i ↔
    ∃ a v, axisByte a :: intBytes v = bs ∧ make a v = i := by
  constructor
  · intro h
    unfold axisInt at h
    split at h
    next => cases h
    next a bs1 ha =>
      obtain ⟨v, rfl, hi⟩ := oneInt_eq_ok.mp h
      exact ⟨a, v, (takeAxis_eq_ok.mp ha).symm, hi⟩
  · rintro ⟨a, v, rfl, rfl⟩
    simp [axisInt, oneInt, lastInt_intBytes]

theorem messageOperand_eq_ok {make : Message → Instr} : messageOperand n make bs = .ok i ↔
    ∃ m, m.wellFormed n = true ∧ serialize m = bs ∧ make m = i := by
  constructor
  · intro h
    unfold messageOperand at h
    split at h
    next => cases h
    next m hm =>
      cases h
      obtain ⟨hwf, hbytes⟩ := deserialize_eq_ok.mp hm
      exact ⟨m, hwf, hbytes, rfl⟩
  · rintro ⟨m, hwf, rfl, rfl⟩
    simp [messageOperand, deserialize_serialize hwf]

end Sys2Proof
end

section
/-! The decoder and the encoder agree, layer by layer: bytes decode to an instruction exactly when they
are the encoding of that instruction, well formed and of that layer (O58, O59). -/

namespace Sys2Proof

-- One after another, like the tests: many case splits at once ask for many threads.
set_option Elab.async false

variable {n : Nat} {bs : List Byte} {i : Instr}

/-- The bytes are the encoding, in this layer, of a well-formed instruction. -/
def IsEncoding (n : Nat) (l : Layer) (bs : List Byte) (i : Instr) : Prop :=
  i.wellFormed n = true ∧ i.layer = l ∧ encode i = bs

/-! ### The payload layer (R111) -/

@[simp] theorem Message.wellFormed_instr (m : Message) :
    m.instr.wellFormed n = m.wellFormed n := by cases m <;> rfl
@[simp] theorem Message.layer_instr (m : Message) : m.instr.layer = .payload := by cases m <;> rfl
@[simp] theorem Message.encode_instr (m : Message) : encode m.instr = serialize m := by
  cases m <;> rfl

/-- The instructions of the payload layer are the Messages. -/
theorem Message.exists_instr_of_layer (h : i.layer = .payload) : ∃ m : Message, m.instr = i := by
  cases i with
  | sync => exact ⟨.sync, rfl⟩
  | panTiltStatus pan tilt => exact ⟨.panTiltStatus pan tilt, rfl⟩
  | samples batch => exact ⟨.samples batch, rfl⟩
  | command c => exact ⟨.command c, rfl⟩
  | _ => cases h

theorem decode_payload_instr {m : Message} (h : m.wellFormed n = true) :
    decode n .payload (serialize m) = .ok m.instr := by
  simp [decode, deserialize_serialize h]

theorem isEncoding_of_decode_payload (h : decode n .payload bs = .ok i) :
    IsEncoding n .payload bs i := by
  simp only [decode] at h
  split at h
  next m hm =>
    cases h
    obtain ⟨hwf, hbytes⟩ := deserialize_eq_ok.mp hm
    exact ⟨m.wellFormed_instr.trans hwf, m.layer_instr, m.encode_instr.trans hbytes⟩
  next => cases h

/-! ### The text layer (R118) -/

/-- A `Command` that a text command expands to is the one that text command is encoded as. -/
theorem isEncoding_of_textOfCommand {c : Command} (h : textOfCommand c = .ok i) :
    IsEncoding n .text (serialize (.command c)) i := by
  obtain ⟨pan, tilt, en⟩ := c
  match pan, tilt, en with
  | some deg, none, none => cases h; exact ⟨rfl, rfl, rfl⟩
  | none, some deg, none => cases h; exact ⟨rfl, rfl, rfl⟩
  | none, none, some true => cases h; exact ⟨rfl, rfl, rfl⟩
  | none, none, some false => cases h; exact ⟨rfl, rfl, rfl⟩
  | none, none, none => cases h
  | some _, none, some _ => cases h
  | none, some _, some _ => cases h
  | some _, some _, _ => cases h

theorem decodeText_serialize (c : Command) :
    decodeText (serialize (.command c)) = textOfCommand c := by
  simp [decodeText, serialize_command]

theorem isEncoding_of_decodeText (h : decodeText bs = .ok i) : IsEncoding n .text bs i := by
  cases bs with
  | nil => cases h
  | cons tag tail =>
    simp only [decodeText] at h
    split_ifs at h with htag
    split at h
    next c hc =>
      rw [htag, takeCommand_eq_ok.mp hc, ← serialize_command]
      exact isEncoding_of_textOfCommand h
    next => cases h

end Sys2Proof
end

section
/-! The operation layer: the number of R110 names the operation, and its operand bytes are read by the
readers of Codec. Then the two statements about all layers (O58, O59). -/

namespace Sys2Proof

-- One after another, like the tests: many case splits at once ask for many threads.
set_option Elab.async false

variable {n : Nat} {bs : List Byte} {i : Instr}

/-! ### Operations with operands of their own -/

theorem isEncoding_of_noMore {number : Byte} {j : Instr} (hj : IsEncoding n .operation [number] j)
    (h : noMore j bs = .ok i) : IsEncoding n .operation (number :: bs) i := by
  obtain ⟨rfl, rfl⟩ := noMore_eq_ok.mp h
  exact hj

theorem isEncoding_of_tick (h : decodeOperation n 0x02 bs = .ok i) :
    IsEncoding n .operation (0x02 :: bs) i := by
  simp only [decodeOperation] at h
  split at h
  next f hread =>
    cases h
    obtain ⟨-, hbytes⟩ := takeFrames_eq_ok.mp hread
    exact ⟨rfl, rfl, by simp [encode, hbytes, batchBytes]⟩
  next => cases h

theorem isEncoding_of_fromBatch (h : decodeOperation n 0x10 bs = .ok i) :
    IsEncoding n .operation (0x10 :: bs) i := by
  simp only [decodeOperation] at h
  split at h
  next => cases h
  next b rest hread =>
    obtain ⟨hwf, hbytes⟩ := takeBatchRef_eq_ok.mp hread
    obtain ⟨rfl, rfl⟩ := noMore_eq_ok.mp h
    exact ⟨hwf, rfl, by simp [encode, hbytes]⟩

theorem isEncoding_of_addGoalOffset (h : decodeOperation n 0x41 bs = .ok i) :
    IsEncoding n .operation (0x41 :: bs) i := by
  simp only [decodeOperation] at h
  split at h
  next => cases h
  next a bearing hread =>
    split_ifs at h with hle
    cases h
    exact ⟨decide_eq_true hle, rfl, by simp [encode, takeAxis_eq_ok.mp hread]⟩
  next => cases h

theorem isEncoding_of_step (h : decodeOperation n 0x42 bs = .ok i) :
    IsEncoding n .operation (0x42 :: bs) i := by
  simp only [decodeOperation] at h
  split at h
  next => cases h
  next a rest hread =>
    obtain ⟨rfl, rfl⟩ := noMore_eq_ok.mp h
    exact ⟨rfl, rfl, by simp [encode, takeAxis_eq_ok.mp hread]⟩

theorem isEncoding_of_unstuff (h : decodeOperation n 0x53 bs = .ok i) :
    IsEncoding n .operation (0x53 :: bs) i := by
  simp only [decodeOperation] at h
  split_ifs at h with hall
  cases h
  exact ⟨hall, rfl, rfl⟩

theorem isEncoding_of_send (h : decodeOperation n 0x56 bs = .ok i) :
    IsEncoding n .operation (0x56 :: bs) i := by
  cases h
  exact ⟨by simp [Instr.wellFormed], rfl, by simp [encode]⟩

/-! ### Every number -/

/-- The number is one of those R110 assigns, and the rest are the operand bytes of its operation. -/
theorem isEncoding_of_decodeOperation {number : Byte}
    (h : decodeOperation n number.toNat bs = .ok i) : IsEncoding n .operation (number :: bs) i := by
  have hnumber : BitVec.ofNat 8 number.toNat = number := by simp
  generalize number.toNat = k at h hnumber
  subst hnumber
  have hcases := h
  unfold decodeOperation at hcases
  split at hcases
  -- The operations with operands of their own.
  case h_3 => exact isEncoding_of_tick h
  case h_6 => exact isEncoding_of_fromBatch h
  case h_14 => exact isEncoding_of_addGoalOffset h
  case h_15 => exact isEncoding_of_step h
  case h_20 => exact isEncoding_of_unstuff h
  case h_23 => exact isEncoding_of_send h
  -- XCORR_REAL, CALC_LAG, CALC_ANGLE.
  case h_7 | h_8 | h_12 =>
    obtain ⟨x, y, ⟨hx, hy⟩, rfl, rfl⟩ := twoSeries_eq_ok.mp hcases
    exact ⟨Bool.and_eq_true_iff.mpr ⟨hx, hy⟩, rfl, rfl⟩
  -- REDUCE_LAG, LAG_TO_ANGLE.
  case h_10 | h_11 =>
    obtain ⟨v, rfl, rfl⟩ := oneInt_eq_ok.mp hcases
    exact ⟨rfl, rfl, rfl⟩
  -- SET_GOAL, then DEG_TO_PULSE.
  case h_13 =>
    obtain ⟨a, w, rfl, rfl⟩ := axisWord_eq_ok.mp hcases
    exact ⟨rfl, rfl, rfl⟩
  case h_16 =>
    obtain ⟨a, v, rfl, rfl⟩ := axisInt_eq_ok.mp hcases
    exact ⟨rfl, rfl, rfl⟩
  -- SERIALIZE, ENCODE_FRAME, ENQUEUE_TX.
  case h_17 | h_21 | h_24 =>
    obtain ⟨m, hwf, rfl, rfl⟩ := messageOperand_eq_ok.mp hcases
    exact ⟨hwf, rfl, rfl⟩
  -- DESERIALIZE, STUFF, FEED: every byte string is an operand.
  case h_18 | h_19 | h_22 => cases hcases; exact ⟨rfl, rfl, rfl⟩
  -- An unassigned number.
  case h_33 => cases hcases
  -- The operations without operands.
  all_goals exact isEncoding_of_noMore ⟨rfl, rfl, rfl⟩ hcases

/-! ### Every encoding -/

/-- The encoding of an operation is read by the reader of its number. -/
theorem decode_operation_encode (hwf : i.wellFormed n = true) (hl : i.layer = .operation) :
    decode n .operation (encode i) = .ok i := by
  cases i with
  | tick f =>
    have hread : takeFrames 1 (frameBytes f) = .ok ([f], []) :=
      takeFrames_eq_ok.mpr ⟨rfl, by simp [batchBytes]⟩
    simp [decode, encode, decodeOperation, hread]
  | fromBatch b =>
    have hread : takeBatchRef n (batchRefBytes b) = .ok (b, []) :=
      takeBatchRef_eq_ok.mpr ⟨hwf, (List.append_nil _).symm⟩
    simp [decode, encode, decodeOperation, hread, noMore]
  | xcorrReal x y | calcLag x y | calcAngle x y =>
    exact twoSeries_eq_ok.mpr ⟨x, y, Bool.and_eq_true_iff.mp hwf, rfl, rfl⟩
  | reduceLag v | lagToAngle v => exact oneInt_eq_ok.mpr ⟨v, rfl, rfl⟩
  | setGoal a w => exact axisWord_eq_ok.mpr ⟨a, w, rfl, rfl⟩
  | addGoalOffset a bearing =>
    have hle : bearing.toNat ≤ 180 := of_decide_eq_true hwf
    simp [decode, encode, decodeOperation, hle]
  | step a => simp [decode, encode, decodeOperation, noMore]
  | degToPulse a v => exact axisInt_eq_ok.mpr ⟨a, v, rfl, rfl⟩
  | serialize m | encodeFrame m | enqueueTx m =>
    exact messageOperand_eq_ok.mpr ⟨m, hwf, rfl, rfl⟩
  | unstuff body => exact if_pos hwf
  | send frame =>
    have hlast : frame.getLast? = some 0x00 := eq_of_beq hwf
    have hframe : frame.dropLast ++ [0x00] = frame := List.dropLast_append_getLast? _ hlast
    exact congrArg (fun f => Except.ok (Instr.send f)) hframe
  | deserialize payload | stuff payload | feed payload => rfl
  | startSampling | stopSampling | getNewestBatch | releaseBatch | genLagTable => rfl
  | sendSync | hCaptureComplete | hRx | hTxComplete | tDoa | tCommand | tServoTick | tTransmit => rfl
  | _ => cases hl

/-- The encoding of a text command is that of the `Command` it expands to. -/
theorem decode_text_encode (hl : i.layer = .text) : decode n .text (encode i) = .ok i := by
  cases i with
  | textPan deg => exact decodeText_serialize ⟨some deg, none, none⟩
  | textTilt deg => exact decodeText_serialize ⟨none, some deg, none⟩
  | textStart | textStop => rfl
  | _ => cases hl

/-! ### The layers together -/

theorem decode_eq_ok_iff {l : Layer} : decode n l bs = .ok i ↔ IsEncoding n l bs i := by
  constructor
  · intro h
    cases l with
    | payload => exact isEncoding_of_decode_payload h
    | operation =>
      cases bs with
      | nil => cases h
      | cons number tail => exact isEncoding_of_decodeOperation h
    | text => exact isEncoding_of_decodeText h
  · rintro ⟨hwf, rfl, rfl⟩
    cases hl : i.layer with
    | payload =>
      obtain ⟨m, rfl⟩ := Message.exists_instr_of_layer hl
      rw [m.encode_instr]
      exact decode_payload_instr (m.wellFormed_instr.symm.trans hwf)
    | operation => exact decode_operation_encode hwf hl
    | text => exact decode_text_encode hl

end Sys2Proof

open Sys2Proof Sys2Proof.Machine

/-- Settles O58: the encoding reads back in the layer of the instruction. -/
theorem decodeOfEncode : Obligations.DecodeOfEncode :=
  fun _ _ hwf => decode_eq_ok_iff.mpr ⟨hwf, rfl, rfl⟩

/-- Settles O59: what a layer reads is what the encoder writes. -/
theorem decodeIsExact : Obligations.DecodeIsExact :=
  fun _ _ _ _ h => decode_eq_ok_iff.mp h
end

section
/-! The device side of the encodings: what a step does with decoded bytes (O47), what the instruction
forms of Messages and text commands do (O41), hand-written words (O60). -/

namespace Sys2Proof.Machine

-- One after another, like the tests: many case splits at once ask for many threads.
set_option Elab.async false

variable {s : State}

/-! ### A turn that is a direct invocation -/

theorem runInvocation_of_decode {l : Layer} {bs : List Byte} {i : Instr}
    (h : decode s.cfg.signalLen l bs = .ok i) : runInvocation l bs s = exec i s := by
  simp [runInvocation, h]

/-! ### A `Command` at the device (R261) -/

/-- A clamped angle fits its register whatever the travel limit is. -/
theorem toInt_clampAngle_eq_exactClamp (c : Config) (a : Axis) (v : Int) :
    (clampAngle c a v).toInt = exactClamp v 0 (c.servoMax.get a).toInt := by
  have hlo := BitVec.le_toInt (c.servoMax.get a)
  have hhi := BitVec.toInt_lt (x := c.servoMax.get a)
  have hfits : -2 ^ 31 ≤ exactClamp v 0 (c.servoMax.get a).toInt ∧
      exactClamp v 0 (c.servoMax.get a).toInt < 2 ^ 31 := by
    unfold exactClamp
    split_ifs <;> omega
  rw [clampAngle, clamp_eq_exactClamp, BitVec.toInt_ofInt, Int.bmod_eq_of_le] <;> omega

/-- The goal of an axis after the optional field of a `Command` for it. -/
def goalAfter (s : State) (a : Axis) : Option Angle → Angle
  | some degrees => clampAngle s.cfg a degrees.toInt
  | none => s.srvGoal.get a

/-- The first two fields of a `Command` applied. -/
def commandGoals (c : Command) (s : State) : State :=
  whenPresent c.tiltDegrees (writeGoal .tilt) (whenPresent c.panDegrees (writeGoal .pan) s)

/-- The third field of a `Command` applied. -/
def commandSampling (en : Option Bool) (s : State) : State :=
  whenPresent en (fun en s => if en then startCapture s else stopCapture s) s

/-- The reply that ends a `Command`. -/
def commandReply (s : State) : State := enqueueMessage (statusReply s) s

theorem applyCommand_eq (c : Command) (s : State) : applyCommand c s =
    commandReply (commandSampling c.samplingEnabled (commandGoals c s)) := rfl

theorem commandGoals_eq (c : Command) (s : State) : commandGoals c s =
    { s with srvGoal := ⟨goalAfter s .pan c.panDegrees, goalAfter s .tilt c.tiltDegrees⟩ } := by
  obtain ⟨pan, tilt, en⟩ := c
  cases pan <;> cases tilt <;> rfl

theorem commandSampling_start (h : s.capEn = false) : commandSampling (some true) s =
    { s with capEn := true, capPaused := false, capWr := 0, pendBatch := false } :=
  if_neg (by simp [h])

theorem commandSampling_stop : commandSampling (some false) s = { s with capEn := false } := rfl

theorem commandSampling_kept {en : Option Bool} (h : en = none ∨ en = some true ∧ s.capEn = true) :
    commandSampling en s = s := by
  rcases h with rfl | ⟨rfl, hon⟩
  · rfl
  · exact if_pos hon

theorem commandSampling_frame (en : Option Bool) (s : State) : ∃ on paused wr pend,
    commandSampling en s =
      { s with capEn := on, capPaused := paused, capWr := wr, pendBatch := pend } := by
  match en, h : s.capEn with
  | none, _ => exact ⟨_, _, _, _, rfl⟩
  | some false, _ => exact ⟨_, _, _, _, rfl⟩
  | some true, true => exact ⟨_, _, _, _, commandSampling_kept (.inr ⟨rfl, h⟩)⟩
  | some true, false => exact ⟨_, _, _, _, commandSampling_start h⟩

theorem commandReply_room (h : s.txqR.length < s.cfg.txqReplyCap) :
    commandReply s = { s with txqR := s.txqR ++ [.panTiltStatus s.srvCur.pan s.srvCur.tilt] } :=
  if_pos h

theorem commandReply_full (h : s.cfg.txqReplyCap ≤ s.txqR.length) :
    commandReply s = { s with gTxDrop := true } := if_neg (by omega)

theorem commandReply_frame (s : State) : ∃ q drop,
    commandReply s = { s with txqR := q, gTxDrop := drop } := by
  rcases Nat.lt_or_ge s.txqR.length s.cfg.txqReplyCap with h | h
  · exact ⟨_, _, commandReply_room h⟩
  · exact ⟨_, _, commandReply_full h⟩

theorem commandApplied_applyCommand (c : Command) (s : State) :
    CommandApplied c s (applyCommand c s) := by
  have hgoals := commandGoals_eq c s
  obtain ⟨on, paused, wr, pend, hsampling⟩ :=
    commandSampling_frame c.samplingEnabled (commandGoals c s)
  obtain ⟨q, drop, hreply⟩ :=
    commandReply_frame (commandSampling c.samplingEnabled (commandGoals c s))
  have hgoal : (applyCommand c s).srvGoal =
      ⟨goalAfter s .pan c.panDegrees, goalAfter s .tilt c.tiltDegrees⟩ := by
    rw [applyCommand_eq, hreply, hsampling, hgoals]
  exact {
    panGoal := fun v hv => by
      rw [hgoal, hv]
      exact toInt_clampAngle_eq_exactClamp ..
    panKept := fun hv => by rw [hgoal, hv]; rfl
    tiltGoal := fun v hv => by
      rw [hgoal, hv]
      exact toInt_clampAngle_eq_exactClamp ..
    tiltKept := fun hv => by rw [hgoal, hv]; rfl
    started := fun hen hoff => by
      have hstart := commandSampling_start (s := commandGoals c s) (by rw [hgoals]; exact hoff)
      rw [applyCommand_eq, hreply, hen, hstart]
      exact ⟨rfl, rfl, rfl, rfl⟩
    stopped := fun hen => by
      rw [applyCommand_eq, hreply, hen, commandSampling_stop, hgoals]
      exact ⟨rfl, rfl, rfl, rfl⟩
    captureKept := fun hen => by
      have hkept := commandSampling_kept (s := commandGoals c s) (en := c.samplingEnabled)
        (by rw [hgoals]; exact hen)
      rw [applyCommand_eq, hreply, hkept, hgoals]
      exact ⟨rfl, rfl, rfl, rfl⟩
    replied := fun hroom => by
      have hreply := commandReply_room (s := commandSampling c.samplingEnabled (commandGoals c s))
        (by rw [hsampling, hgoals]; exact hroom)
      rw [applyCommand_eq, hreply, hsampling, hgoals]
      exact ⟨rfl, rfl⟩
    dropped := fun hfull => by
      have hreply := commandReply_full (s := commandSampling c.samplingEnabled (commandGoals c s))
        (by rw [hsampling, hgoals]; exact hfull)
      rw [applyCommand_eq, hreply, hsampling, hgoals]
      exact ⟨rfl, rfl⟩
    frame := by rw [applyCommand_eq, hreply, hsampling, hgoals] }

theorem execSamples_eq {batch : List Frame} (h : batch.length = s.cfg.signalLen) :
    execSamples batch s = .next s := if_pos (beq_iff_eq.mpr h)

end Sys2Proof.Machine

open Sys2Proof Sys2Proof.Machine

/-- Settles O47: the turn is taken off the schedule and its bytes are decoded; `withFetchWord` puts
such a turn at the head of the schedule. -/
theorem stepRunsTheDecodedInstruction : Obligations.StepRunsTheDecodedInstruction := by
  refine ⟨fun s l bs rest i hr hs hd => ?_, fun s nbits w i hd => ?_⟩
  · exact (step_of_sched hr hs).trans (runInvocation_of_decode hd)
  · have hturn : step (s.withFetchWord nbits w) = runInvocation (tableWordLayer nbits w)
        (tableWordBytes s.cfg.signalLen nbits w) { s with inReset := false } :=
      step_of_sched (s := s.withFetchWord nbits w) (rest := s.sched) rfl rfl
    exact hturn.trans (runInvocation_of_decode hd)

/-- Settles O41: every form of a `Command` is `applyCommand`, whose effect is `CommandApplied`. -/
theorem messagesAtTheDevice : Obligations.MessagesAtTheDevice :=
  fun s => ⟨fun c => ⟨_, rfl, commandApplied_applyCommand c s, rfl⟩,
    fun _ => ⟨_, rfl, commandApplied_applyCommand _ s⟩,
    fun _ => ⟨_, rfl, commandApplied_applyCommand _ s⟩,
    ⟨_, rfl, commandApplied_applyCommand _ s⟩, ⟨_, rfl, commandApplied_applyCommand _ s⟩,
    rfl, fun _ _ => rfl, fun _ hlen => execSamples_eq hlen⟩

/-- Settles O60: by evaluation of the decoder. -/
theorem handWrittenWordsDecode : Obligations.HandWrittenWordsDecode :=
  ⟨rfl, rfl, rfl, rfl, rfl, rfl, rfl, rfl, rfl, rfl, rfl⟩
end

section
/-! The layouts of the payloads: the places of the bytes `SERIALIZE` writes (O18, O19), and the legal
payloads, which are the ones it can write (O21). -/

namespace Sys2Proof

-- One after another, like the tests: many case splits at once ask for many threads.
set_option Elab.async false

variable {n : Nat}

/-! ### The places of the samples of a batch -/

theorem batchBytes_cons (f : Frame) (fs : List Frame) :
    batchBytes (f :: fs) = frameBytes f ++ batchBytes fs := List.flatMap_cons

theorem batchBytes_length (batch : List Frame) : (batchBytes batch).length = 8 * batch.length := by
  induction batch with
  | nil => rfl
  | cons f fs ih =>
    rw [batchBytes_cons, List.length_append, frameBytes_length, ih, List.length_cons]
    omega

/-- Byte `k` of frame `i` is at offset `8 * i + k`. -/
theorem getD_batchBytes {batch : List Frame} {i : Nat} {f : Frame} (h : batch[i]? = some f) {k : Nat}
    (hk : k < 8) (d : Byte) : (batchBytes batch).getD (8 * i + k) d = (frameBytes f).getD k d := by
  induction batch generalizing i with
  | nil => cases h
  | cons g fs ih =>
    rw [batchBytes_cons]
    cases i with
    | zero =>
      have hk' : k < (frameBytes g).length := by rwa [frameBytes_length]
      rw [← Option.some.inj h, Nat.mul_zero, Nat.zero_add]
      exact List.getD_append _ _ _ _ hk'
    | succ j =>
      rw [List.getD_append_right _ _ _ _ (by rw [frameBytes_length]; omega), frameBytes_length,
        show 8 * (j + 1) + k - 8 = 8 * j + k by omega]
      exact ih h

/-- Sample `c` of a frame is at offset `2 * c`, least significant byte first. -/
theorem toNat_frameBytes (f : Frame) (c : Fin 4) :
    ((frameBytes f).getD (2 * c.val) 0).toNat + 256 * ((frameBytes f).getD (2 * c.val + 1) 0).toNat =
      (f.get c).toNat := by
  match c with
  | 0 => exact toNat_extractLsb'_le16 f.c0
  | 1 => exact toNat_extractLsb'_le16 f.c1
  | 2 => exact toNat_extractLsb'_le16 f.c2
  | 3 => exact toNat_extractLsb'_le16 f.c3

/-- Sample `(i, c)` of a `Samples` payload is at offset `1 + 8 * i + 2 * c` (R95). -/
theorem toNat_serialize_samples {batch : List Frame} {i : Nat} {f : Frame} (h : batch[i]? = some f)
    (c : Fin 4) :
    ((serialize (.samples batch)).getD (1 + 8 * i + 2 * c.val) 0).toNat +
      256 * ((serialize (.samples batch)).getD (2 + 8 * i + 2 * c.val) 0).toNat = (f.get c).toNat := by
  have hc := c.isLt
  rw [show 1 + 8 * i + 2 * c.val = 8 * i + 2 * c.val + 1 by omega,
    show 2 + 8 * i + 2 * c.val = 8 * i + (2 * c.val + 1) + 1 by omega]
  simp only [serialize, List.getD_cons_succ]
  rw [getD_batchBytes h (by omega), getD_batchBytes h (by omega), toNat_frameBytes]

/-! ### The fields of a `Command` -/

theorem opt32_length_bounds (v : Option Angle) : 1 ≤ (opt32 v).length ∧ (opt32 v).length ≤ 5 := by
  cases v <;> simp [opt32]

theorem optbool_length_bounds (v : Option Bool) :
    1 ≤ (optbool v).length ∧ (optbool v).length ≤ 2 := by
  cases v <;> simp [optbool]

theorem opt32_some (v : Angle) : ∃ b0 b1 b2 b3 : Byte, opt32 (some v) = [0x01, b0, b1, b2, b3] ∧
    b0.toNat + 256 * b1.toNat + 65536 * b2.toNat + 16777216 * b3.toNat = v.toNat :=
  ⟨_, _, _, _, rfl, toNat_extractLsb'_le32 v⟩

/-! ### Bytes that are fields -/

/-- Any four bytes are an angle. -/
theorem exists_eq_le32_append {bs : List Byte} (h : 4 ≤ bs.length) :
    ∃ v, bs = le32 v ++ bs.drop 4 := by
  match bs, h with
  | b0 :: b1 :: b2 :: b3 :: rest, _ => exact ⟨fromLe32 b0 b1 b2 b3, by simp⟩

/-- Any eight bytes are a frame. -/
theorem exists_eq_frameBytes_append {bs : List Byte} (h : 8 ≤ bs.length) :
    ∃ f, bs = frameBytes f ++ bs.drop 8 := by
  match bs, h with
  | a0 :: a1 :: b0 :: b1 :: c0 :: c1 :: d0 :: d1 :: rest, _ =>
    exact ⟨⟨fromLe16 a0 a1, fromLe16 b0 b1, fromLe16 c0 c1, fromLe16 d0 d1⟩, by simp [frameBytes]⟩

theorem exists_eq_batchBytes {bs : List Byte} (h : bs.length = 8 * n) :
    ∃ batch : List Frame, batch.length = n ∧ bs = batchBytes batch := by
  induction n generalizing bs with
  | zero => exact ⟨[], rfl, List.length_eq_zero_iff.mp h⟩
  | succ n ih =>
    obtain ⟨f, hf⟩ := exists_eq_frameBytes_append (bs := bs) (by omega)
    obtain ⟨fs, hlen, hfs⟩ := ih (bs := bs.drop 8) (by rw [List.length_drop]; omega)
    exact ⟨f :: fs, by rw [List.length_cons, hlen], by rw [batchBytes_cons, ← hfs, ← hf]⟩

end Sys2Proof

/-! ### Legal payloads (R105) -/

namespace Sys2Proof.Machine

-- One after another, as above.
set_option Elab.async false

variable {n : Nat} {p : List Byte} {j k : Nat}

theorem flagByte_iff (b : Byte) : flagByte b = true ↔ b = 0x00 ∨ b = 0x01 := by
  simp [flagByte]

/-- A byte that is not the default of `getD` begins what is left of the list. -/
theorem drop_eq_getD_cons (hk : k < p.length) (d : Byte) : p.drop k = p.getD k d :: p.drop (k + 1) := by
  rw [List.drop_eq_getElem_cons hk, List.getD_eq_getElem _ _ hk]

/-- A presence byte and as many bytes as it announces are an optional angle. -/
theorem exists_drop_eq_opt32 (hflag : flagByte (p.getD k 0xFF) = true)
    (hj : j = k + 1 + 4 * (p.getD k 0xFF).toNat) (hlen : j ≤ p.length) :
    ∃ v, p.drop k = opt32 v ++ p.drop j := by
  have hcons := drop_eq_getD_cons (p := p) (k := k) (by omega) 0xFF
  rcases (flagByte_iff _).mp hflag with h0 | h1
  · rw [h0] at hcons hj
    exact ⟨none, hj ▸ hcons⟩
  · rw [h1] at hcons hj
    have hj' : j = k + 1 + 4 := hj
    obtain ⟨v, hv⟩ := exists_eq_le32_append (bs := p.drop (k + 1)) (by rw [List.length_drop]; omega)
    rw [List.drop_drop, ← hj'] at hv
    exact ⟨some v, hcons.trans (congrArg (0x01 :: ·) hv)⟩

/-- A presence byte and as many boolean bytes as it announces, at the end, are an optional boolean. -/
theorem exists_drop_eq_optbool (hflag : flagByte (p.getD k 0xFF) = true) (hj : j = k + 1)
    (hlen : p.length = j + (p.getD k 0xFF).toNat)
    (hvalue : p.getD k 0xFF = 0x00 ∨ flagByte (p.getD j 0xFF) = true) :
    ∃ v, p.drop k = optbool v := by
  subst hj
  have hcons := drop_eq_getD_cons (p := p) (k := k) (by omega) 0xFF
  rcases (flagByte_iff _).mp hflag with h0 | h1
  · rw [h0] at hcons hlen
    have hend : p.length = k + 1 := hlen
    exact ⟨none, by rw [hcons, List.drop_of_length_le hend.le]; rfl⟩
  · rw [h1] at hcons hlen hvalue
    have hend : p.length = k + 2 := hlen
    have hcons' := drop_eq_getD_cons (p := p) (k := k + 1) (by omega) 0xFF
    rw [List.drop_of_length_le hend.le] at hcons'
    rcases (flagByte_iff _).mp (hvalue.resolve_left (by decide)) with hb | hb
    · exact ⟨some false, by rw [hcons, hcons', hb]; rfl⟩
    · exact ⟨some true, by rw [hcons, hcons', hb]; rfl⟩

theorem exists_command_of_legalCommand (h : legalCommand p = true) :
    ∃ c, p.drop 1 = commandBytes c := by
  simp only [legalCommand, Bool.and_eq_true, Bool.or_eq_true, beq_iff_eq] at h
  obtain ⟨⟨⟨⟨hpan, htilt⟩, hen⟩, hlen⟩, hvalue⟩ := h
  obtain ⟨pan, hpan'⟩ := exists_drop_eq_opt32 hpan rfl (by omega)
  obtain ⟨tilt, htilt'⟩ := exists_drop_eq_opt32
    (j := 3 + 4 * (p.getD 1 0xFF).toNat + 4 * (p.getD (2 + 4 * (p.getD 1 0xFF).toNat) 0xFF).toNat)
    htilt (by omega) (by omega)
  obtain ⟨en, hen'⟩ := exists_drop_eq_optbool hen (by omega) hlen hvalue
  refine ⟨⟨pan, tilt, en⟩, hpan'.trans ?_⟩
  rw [htilt', hen', commandBytes, List.append_assoc]

/-- The legal payloads are those of the well-formed Messages. -/
theorem legalPayload_iff :
    legalPayload n p = true ↔ ∃ m : Message, m.wellFormed n = true ∧ serialize m = p := by
  constructor
  · intro h
    cases p with
    | nil => cases h
    | cons tag bs =>
      simp only [legalPayload, List.length_cons] at h
      split_ifs at h with h0 h1 h2 h3
      · obtain rfl : bs = [] := List.length_eq_zero_iff.mp (by simpa using h)
        exact ⟨.sync, rfl, by rw [h0]; rfl⟩
      · have hlen : bs.length = 8 := by simpa using h
        obtain ⟨pan, hpan⟩ := exists_eq_le32_append (bs := bs) (by omega)
        obtain ⟨tilt, htilt⟩ := exists_eq_le32_append (bs := bs.drop 4) (by rw [List.length_drop]; omega)
        rw [List.drop_drop, List.drop_of_length_le hlen.le, List.append_nil] at htilt
        exact ⟨.panTiltStatus pan tilt, rfl, by rw [serialize, ← htilt, ← hpan, h1]⟩
      · obtain ⟨batch, hlen, rfl⟩ := exists_eq_batchBytes (bs := bs) (n := n)
          (by have := eq_of_beq h; omega)
        exact ⟨.samples batch, beq_iff_eq.mpr hlen, by rw [h2]; rfl⟩
      · subst h3
        obtain ⟨c, hc⟩ := exists_command_of_legalCommand h
        exact ⟨.command c, rfl, congrArg (0x03 :: ·) hc.symm⟩
  · rintro ⟨m, hwf, rfl⟩
    cases m with
    | sync => rfl
    | panTiltStatus pan tilt => rfl
    | samples batch =>
      have hlen : batch.length = n := eq_of_beq hwf
      simp [legalPayload, serialize, batchBytes_length, hlen, Nat.add_comm]
    | command c =>
      obtain ⟨pan, tilt, en⟩ := c
      rcases pan with _ | pan <;> rcases tilt with _ | tilt <;> rcases en with _ | _ | _ <;> rfl

/-! ### `DESERIALIZE` -/

theorem execDeserialize_of_wellFormed {s : State} {m : Message}
    (h : m.wellFormed s.cfg.signalLen = true) :
    execDeserialize (serialize m) s = .next (returning (.message m) s) := by
  simp [execDeserialize, deserialize_serialize h]

theorem execDeserialize_of_illegal {s : State} (h : legalPayload s.cfg.signalLen p = false) :
    execDeserialize p s = raiseCondition .deserError s := by
  unfold execDeserialize
  split
  next m hm =>
    have hlegal := legalPayload_iff.mpr ⟨m, deserialize_eq_ok.mp hm⟩
    exact absurd (h.symm.trans hlegal) (by decide)
  next => rfl

end Sys2Proof.Machine

open Sys2Proof Sys2Proof.Machine

/-- Settles O18: by the places of the bytes of `le16` and `le32`. -/
theorem serializeLayouts : Obligations.SerializeLayouts := by
  refine fun s => ⟨rfl, fun pan tilt => ⟨_, rfl, rfl, rfl, ?_, ?_⟩, fun batch hlen => ?_⟩
  · exact toNat_extractLsb'_le32 pan
  · exact toNat_extractLsb'_le32 tilt
  · refine ⟨serialize (.samples batch), if_pos (beq_iff_eq.mpr hlen), ?_, rfl, ?_⟩
    · rw [← hlen, serialize, List.length_cons, batchBytes_length]
      omega
    · exact fun i c f hf => toNat_serialize_samples hf c

/-- Settles O19: the three fields are `opt32`, `opt32` and `optbool`. -/
theorem serializeCommandLayout : Obligations.SerializeCommandLayout := by
  intro s c
  have hpan := opt32_length_bounds c.panDegrees
  have htilt := opt32_length_bounds c.tiltDegrees
  have hen := optbool_length_bounds c.samplingEnabled
  have hlength : (serialize (.command c)).length = 1 + (opt32 c.panDegrees).length +
      (opt32 c.tiltDegrees).length + (optbool c.samplingEnabled).length := by
    simp only [serialize, List.length_cons, List.length_append]
    omega
  refine ⟨serialize (.command c), opt32 c.panDegrees, opt32 c.tiltDegrees,
    optbool c.samplingEnabled, rfl, rfl, fun h => by rw [h]; rfl, fun h => by rw [h]; rfl,
    fun v h => h ▸ opt32_some v, fun v h => h ▸ opt32_some v, fun h => by rw [h]; rfl,
    fun h => by rw [h]; rfl, fun h => by rw [h]; rfl, ?_, ?_⟩ <;> omega

/-- Settles O21: the legal payloads are the ones `SERIALIZE` writes, and `DESERIALIZE` reads those. -/
theorem deserializeErrorsExactlyOnIllegal : Obligations.DeserializeErrorsExactlyOnIllegal := by
  refine fun s p => ⟨fun h => ?_, execDeserialize_of_illegal⟩
  obtain ⟨m, hwf, rfl⟩ := legalPayload_iff.mp h
  exact ⟨m, rfl, execDeserialize_of_wellFormed hwf⟩
end

section
/-! The capture unit CAP (O1 to O4): which case of its operation holds under which condition, and what
one captured frame does to the stores (R131 to R135). -/

namespace Sys2Proof.Machine

-- One after another, like the tests: elaboration in parallel asks for more threads.
set_option Elab.async false

variable {s : State}

/-! ### Starting, stopping and releasing (R131, R133, R135) -/

theorem startCapture_of_stopped (h : s.capEn = false) : startCapture s =
    { s with capEn := true, capPaused := false, capWr := 0, pendBatch := false } := by
  rcases startCapture_cases s with ⟨hen, -⟩ | ⟨-, e⟩
  · exact nomatch h.symm.trans hen
  · exact e

theorem startCapture_of_started (h : s.capEn = true) : startCapture s = s := by
  rcases startCapture_cases s with ⟨-, e⟩ | ⟨hen, -⟩
  · exact e
  · exact nomatch h.symm.trans hen

theorem stopCapture_of_stopped (h : s.capEn = false) : stopCapture s = s := by
  rw [stopCapture, ← h]

theorem releaseReference_of_none_outstanding (h : s.capOut = false) : releaseReference s = s := by
  rw [releaseReference, ← h]

/-! ### `TICK` (R132) -/

theorem tickEnabled_iff : tickEnabled s = true ↔ s.capEn = true ∧ s.capPaused = false := by
  simp [tickEnabled]

theorem execTick_of_enabled (hen : s.capEn = true) (hp : s.capPaused = false) (f : Frame) :
    execTick f s = .next (captureFrame f s) := by
  rw [execTick, if_pos (tickEnabled_iff.mpr ⟨hen, hp⟩)]

theorem execTick_of_not_enabled (h : s.capEn = false ∨ s.capPaused = true) (f : Frame) :
    execTick f s = .next s := by
  have hdisabled : ¬ tickEnabled s = true := fun ht => by
    obtain ⟨hen, hp⟩ := tickEnabled_iff.mp ht
    rcases h with h | h
    · exact nomatch h.symm.trans hen
    · exact nomatch h.symm.trans hp
  rw [execTick, if_neg hdisabled]

theorem captureFrame_of_full (h : s.cfg.signalLen ≤ s.capWr) (f : Frame) :
    captureFrame f s = { s with gGap := true } := by
  rcases captureFrame_cases f s with ⟨hroom, -⟩ | ⟨-, e⟩
  · exact absurd hroom (Nat.not_lt.mpr h)
  · exact e

theorem captureFrame_of_room (h : s.capWr < s.cfg.signalLen) (f : Frame) :
    captureFrame f s = { s with
      mem := s.mem.writeFrame s.capActive s.capWr f
      capWr := s.capWr + 1
      pendBatch := if s.capWr + 1 = s.cfg.signalLen then true else s.pendBatch } := by
  rcases captureFrame_cases f s with ⟨-, e⟩ | ⟨hfull, -⟩
  · rw [e, Bool.or_comm]
    simp only [Bool.if_true_left, beq_eq_decide]
  · exact absurd h (Nat.not_lt.mpr hfull)

/-- A frame is read as it was written, at the place it was written; any other frame reads as before
(R65). -/
theorem Memory.readFrame_writeFrame (m : Memory) (b d : Fin 2) (i j : Nat) (f : Frame) :
    (m.writeFrame b i f).readFrame d j = if d = b ∧ j = i then some f else m.readFrame d j := by
  unfold Memory.readFrame
  rw [Memory.buf_writeFrame]
  by_cases hd : d = b
  · subst hd
    simp [Store.read_write]
  · simp [hd]

/-! ### `GET_NEWEST_BATCH` (R134) -/

theorem newestBatch_of_full (h : s.capWr = s.cfg.signalLen) : newestBatch s = (some s.capActive,
    { s with
      gOverrun := if s.capOut then true else s.gOverrun
      capActive := otherBuffer s.capActive
      capWr := 0
      capRdyV := true
      capOut := true }) := by
  rcases newestBatch_cases s with ⟨-, e⟩ | ⟨hw, -⟩
  · rw [e, Bool.or_comm]
    simp only [Bool.if_true_left, Bool.decide_eq_true]
  · exact absurd h hw

theorem newestBatch_of_not_full (h : s.capWr ≠ s.cfg.signalLen) : newestBatch s = (none, s) := by
  rcases newestBatch_cases s with ⟨hw, -⟩ | ⟨-, e⟩
  · exact absurd hw h
  · exact e

end Sys2Proof.Machine

open Sys2Proof Sys2Proof.Machine

/-- Settles O3: one lemma for each of the three conditions, and the stores after one written frame. -/
theorem tickWritesOneFrame : Obligations.TickWritesOneFrame := by
  refine fun s f => ⟨fun hen hp hroom => ?_, fun hen hp hfull => ?_,
    fun h => execTick_of_not_enabled h f⟩
  · have hnext : exec (.tick f) s = _ :=
      (execTick_of_enabled hen hp f).trans (congrArg _ (captureFrame_of_room hroom f))
    refine ⟨_, hnext, rfl, fun b i => Memory.readFrame_writeFrame _ _ b _ i f, fun i => ?_,
      fun c i => ?_, fun i => ?_⟩
    · rw [Memory.raw_writeFrame]
    · rw [Memory.ch_writeFrame]
    · rw [Memory.corr_writeFrame]
  · exact (execTick_of_enabled hen hp f).trans (congrArg _ (captureFrame_of_full hfull f))

/-- Settles O1: the two cases of `startCapture`. -/
theorem startSamplingArms : Obligations.StartSamplingArms :=
  fun _ => ⟨fun h => congrArg _ (startCapture_of_stopped h),
    fun h => congrArg _ (startCapture_of_started h)⟩

/-- Settles O2: after a stop no tick is enabled. -/
theorem stopAndReleaseClear : Obligations.StopAndReleaseClear :=
  fun s f => ⟨rfl, fun h => congrArg _ (stopCapture_of_stopped h),
    execTick_of_not_enabled (s := stopCapture s) (.inl rfl) f, rfl,
    fun h => congrArg _ (releaseReference_of_none_outstanding h)⟩

/-- Settles O4: the other buffer is `otherBuffer` of the active one. -/
theorem newestBatchSwaps : Obligations.NewestBatchSwaps := by
  refine fun s => ⟨fun h => ⟨otherBuffer s.capActive, otherBuffer_ne _, ?_⟩, fun h => ?_⟩
  · show execGetNewestBatch s = _
    rw [execGetNewestBatch, newestBatch_of_full h]
    rfl
  · show execGetNewestBatch s = _
    rw [execGetNewestBatch, newestBatch_of_not_full h]
    rfl
end

section
/-! The channel demultiplexer DMX (O5): the registers of DC removal hold the exact integers the spec
computes with, and what `FROM_BATCH` leaves in each store (R150). -/

namespace Sys2Proof.Machine

-- One after another, like the tests: elaboration in parallel asks for more threads.
set_option Elab.async false

variable {s : State} {batch : List Frame}

/-! ### The primitives of DC removal (R11) -/

/-- The quotient is its sign times its magnitude; its sign is the product of the signs unless the
dividend is the smaller in magnitude, and then both sides are 0. -/
theorem tdiv_eq_exactTdiv (a b : Int) : tdiv a b = exactTdiv a b := by
  rw [tdiv, exactTdiv, ← Int.sign_mul_natAbs (a.tdiv b), Int.sign_tdiv, Int.natAbs_tdiv]
  split
  next hsmall => rw [Nat.div_eq_of_lt hsmall, Int.zero_mul, Int.natCast_zero, Int.mul_zero]
  next => rfl

theorem toInt_sat16 (v : Int) : (sat16 v).toInt = exactSat16 v := by
  have hbounds := clamp_bounds v (-32768) 32767 (by decide)
  have hclamp : exactSat16 v = clamp v (-32768) 32767 := rfl
  rw [hclamp, sat16, BitVec.toInt_ofInt, Int.bmod_eq_of_le] <;> omega

/-! ### The running sum (R150) -/

/-- The 64-bit sum is the integer sum modulo `2^64`, for a series of any length. -/
theorem foldl_signExtend_eq_add_ofInt (xs : List Sample) (acc : Acc) :
    xs.foldl (fun acc x => acc + x.signExtend 64) acc =
      acc + BitVec.ofInt 64 (xs.map BitVec.toInt).sum := by
  induction xs generalizing acc with
  | nil => simp
  | cons x xs ih =>
    rw [List.foldl_cons, ih, List.map_cons, List.sum_cons, BitVec.ofInt_add, BitVec.add_assoc,
      BitVec.signExtend]

theorem channelSum_eq_ofInt (xs : List Sample) :
    channelSum xs = BitVec.ofInt 64 (xs.map BitVec.toInt).sum := by
  rw [channelSum, foldl_signExtend_eq_add_ofInt]
  exact BitVec.zero_add _

theorem sum_toInt_bounds (xs : List Sample) :
    -(2 ^ 15 * xs.length : Int) ≤ (xs.map BitVec.toInt).sum ∧
      (xs.map BitVec.toInt).sum ≤ 2 ^ 15 * xs.length := by
  induction xs with
  | nil => simp
  | cons x xs ih =>
    have hlow := BitVec.le_toInt x
    have hhigh := BitVec.toInt_lt (x := x)
    simp only [List.map_cons, List.sum_cons, List.length_cons]
    omega

/-- Up to `2^31` samples the sum stays below `2^46`, so `DMX.SUM` holds it exactly. -/
theorem toInt_channelSum {xs : List Sample} (h : xs.length ≤ 2 ^ 31) :
    (channelSum xs).toInt = (xs.map BitVec.toInt).sum := by
  have hbounds := sum_toInt_bounds xs
  rw [channelSum_eq_ofInt, BitVec.toInt_ofInt, Int.bmod_eq_of_le] <;> omega

theorem toInt_channelSum_eq_exactChannelSum (h : batch.length ≤ 2 ^ 31) (c : Fin 4) :
    (channelSum (batch.map (·.get c))).toInt = exactChannelSum batch c := by
  rw [toInt_channelSum (by rwa [List.length_map]), List.map_map]
  rfl

/-! ### The series -/

/-- A sample of a de-meaned series, in exact integer arithmetic. -/
theorem channelSeries_getElem?_of_frame (h : batch.length ≤ 2 ^ 31) (n : Nat) (c : Fin 4) {i : Nat}
    {f : Frame} (hf : batch[i]? = some f) :
    ∃ v, (channelSeries n batch c)[i]? = some v ∧ v.toInt =
      exactSat16 ((f.get c).toInt - exactTdiv (exactChannelSum batch c) n) := by
  refine ⟨removeMean (dcMean n (channelSum (batch.map (·.get c)))) (f.get c), ?_, ?_⟩
  · simp [channelSeries, hf]
  · rw [removeMean, toInt_sat16, dcMean, tdiv_eq_exactTdiv, toInt_channelSum_eq_exactChannelSum h]

/-! ### What `FROM_BATCH` leaves -/

theorem execFromBatch_of_value {b : BatchRef} (h : batchValue s b = some batch) :
    execFromBatch b s = .next (demuxBatch batch s) :=
  (execFromBatch_eq_next b s _).mpr ⟨batch, h, rfl⟩

/-- Each of the four writes leaves the series of the other channels alone. -/
theorem demuxBatch_ch (batch : List Frame) (s : State) (c : Fin 4) :
    (demuxBatch batch s).mem.ch.get c = Store.ofList (channelSeries s.cfg.signalLen batch c) := by
  match c with
  | 0 => rfl
  | 1 => rfl
  | 2 => rfl
  | 3 => rfl

theorem demuxBatch_read_ch_of_le (h : batch.length ≤ s.cfg.signalLen) (c : Fin 4) {i : Nat}
    (hi : s.cfg.signalLen ≤ i) : Store.read ((demuxBatch batch s).mem.ch.get c) i = none := by
  rw [demuxBatch_ch, Store.read_ofList, List.getElem?_eq_none_iff, channelSeries_length]
  exact h.trans hi

@[simp] theorem demuxBatch_dmxSum (batch : List Frame) (s : State) :
    (demuxBatch batch s).dmxSum = channelSum (batch.map (·.get 3)) := rfl
@[simp] theorem demuxBatch_buf (batch : List Frame) (s : State) (b : Fin 2) :
    (demuxBatch batch s).mem.buf b = s.mem.buf b := by simp [demuxBatch]
@[simp] theorem demuxBatch_raw (batch : List Frame) (s : State) :
    (demuxBatch batch s).mem.raw = s.mem.raw := rfl
@[simp] theorem demuxBatch_corr (batch : List Frame) (s : State) :
    (demuxBatch batch s).mem.corr = s.mem.corr := rfl

end Sys2Proof.Machine

open Sys2Proof Sys2Proof.Machine

/-- Settles O5: the 64-bit sum of at most `2^31` samples does not wrap, so mean and difference are
those of the integers. -/
theorem fromBatchRemovesMean : Obligations.FromBatchRemovesMean := by
  intro s b batch hbatch _ hlen
  have hl := batchValue_length hbatch
  have hshort : batch.length ≤ 2 ^ 31 := hl ▸ hlen
  refine ⟨demuxBatch batch s, execFromBatch_of_value hbatch, rfl, fun c i f hf => ?_,
    fun c i hi => demuxBatch_read_ch_of_le hl.le c hi,
    toInt_channelSum_eq_exactChannelSum hshort 3, fun d i => ?_, fun _ => rfl, fun _ => rfl⟩
  · rw [demuxBatch_ch, Store.read_ofList]
    exact channelSeries_getElem?_of_frame hshort _ c hf
  · rw [Memory.readFrame, demuxBatch_buf, Memory.readFrame]
end

section
/-! The cross-correlation engine XC (O6 to O8): the 64-bit loop computes the integer sum of R160 modulo
`2^64`, up to `2^31` samples that sum fits the accumulator (R161), and the strict scan ends at the first
index of the maximum (R163). -/

-- One after another, as above.
set_option Elab.async false

namespace Sys2Proof.Machine

variable {s : State} {x y : SeriesRef} {xs ys : List Sample}

/-! ### One product (R160, R161) -/

theorem signExtend_mul_signExtend (a b : Sample) :
    a.signExtend 64 * b.signExtend 64 = BitVec.ofInt 64 (a.toInt * b.toInt) := by
  rw [BitVec.ofInt_mul, BitVec.signExtend, BitVec.signExtend]

/-- The zero padding: reading at `n + m - half` as an integer is the loop's guarded read. -/
theorem paddedSample_of_le {i half : Nat} (h : half ≤ i) (ys : List Sample) :
    paddedSample ys ((i : Int) - (half : Nat)) = (ys.getD (i - half) 0).toInt := by
  rw [paddedSample, if_pos (by omega), ← Int.ofNat_sub h, Int.toNat_natCast]

theorem paddedSample_of_lt {i half : Nat} (h : i < half) (ys : List Sample) :
    paddedSample ys ((i : Int) - (half : Nat)) = 0 := by
  rw [paddedSample, if_neg (by omega)]

theorem paddedSample_bounds (ys : List Sample) (i : Int) :
    -2 ^ 15 ≤ paddedSample ys i ∧ paddedSample ys i ≤ 2 ^ 15 := by
  rw [paddedSample]
  split
  · have hlow := BitVec.le_toInt (ys.getD i.toNat 0)
    have hhigh := BitVec.toInt_lt (x := ys.getD i.toNat 0)
    omega
  · decide

theorem abs_toInt_mul_paddedSample_le (a : Sample) (ys : List Sample) (i : Int) :
    |a.toInt * paddedSample ys i| ≤ 2 ^ 30 := by
  have hlow := BitVec.le_toInt a
  have hhigh := BitVec.toInt_lt (x := a)
  have ha : |a.toInt| ≤ 2 ^ 15 := abs_le.mpr ⟨by omega, by omega⟩
  have hy : |paddedSample ys i| ≤ 2 ^ 15 := abs_le.mpr (paddedSample_bounds ys i)
  calc |a.toInt * paddedSample ys i| = |a.toInt| * |paddedSample ys i| := abs_mul ..
    _ ≤ 2 ^ 15 * 2 ^ 15 := mul_le_mul ha hy (abs_nonneg _) (by decide)
    _ = 2 ^ 30 := by decide

/-! ### The inner loop -/

/-- What the inner loop adds for output index `n` when the samples `xs` begin at index `m`. -/
def corrSumFrom (ys : List Sample) (half n : Nat) (xs : List Sample) (m : Nat) : Int :=
  ((List.range xs.length).map (fun (j : Nat) =>
    (xs.getD j 0).toInt * paddedSample ys (((n + (m + j) : Nat) : Int) - (half : Nat)))).sum

theorem corrSumFrom_cons (ys : List Sample) (half n : Nat) (a : Sample) (xs : List Sample) (m : Nat) :
    corrSumFrom ys half n (a :: xs) m =
      a.toInt * paddedSample ys (((n + m : Nat) : Int) - (half : Nat)) +
        corrSumFrom ys half n xs (m + 1) := by
  simp [corrSumFrom, List.range_succ_eq_map, Function.comp_def, Nat.add_assoc, Nat.add_comm 1]

theorem exactCorr_eq_corrSumFrom (len : Nat) (xs ys : List Sample) (n : Nat) :
    exactCorr len xs ys n = corrSumFrom ys (len / 2) n xs 0 := by
  simp only [exactCorr, corrSumFrom, Nat.zero_add, Int.natCast_add]

/-- The loop is the integer sum modulo `2^64`, for series of any length. -/
theorem corrLoop_eq_add_ofInt (ys : List Sample) (half n : Nat) (xs : List Sample) (m : Nat)
    (acc : Acc) : corrLoop ys half n xs m acc =
      acc + BitVec.ofInt 64 (corrSumFrom ys half n xs m) := by
  induction xs generalizing m acc with
  | nil => simp [corrLoop, corrSumFrom]
  | cons a xs ih =>
    rw [corrLoop, ih, corrSumFrom_cons, BitVec.ofInt_add, ← BitVec.add_assoc]
    congr 2
    split
    next hin =>
      rw [paddedSample_of_le hin, List.getD_eq_getElem?_getD]
      cases ys[n + m - half]? with
      | some v => exact signExtend_mul_signExtend a v
      | none => simp
    next hout => rw [paddedSample_of_lt (Nat.lt_of_not_le hout), Int.mul_zero]; rfl

/-- Each sample contributes at most `2^30` in magnitude (R161). -/
theorem abs_corrSumFrom_le (ys : List Sample) (half n : Nat) (xs : List Sample) (m : Nat) :
    |corrSumFrom ys half n xs m| ≤ 2 ^ 30 * xs.length := by
  induction xs generalizing m with
  | nil => simp [corrSumFrom]
  | cons a xs ih =>
    rw [corrSumFrom_cons, List.length_cons]
    have hproduct := abs_toInt_mul_paddedSample_le a ys (((n + m : Nat) : Int) - (half : Nat))
    have hsum := abs_add_le (a.toInt * paddedSample ys (((n + m : Nat) : Int) - (half : Nat)))
      (corrSumFrom ys half n xs (m + 1))
    have hrest := ih (m + 1)
    omega

/-! ### The buffer -/

/-- Up to `2^31` samples the sum stays within `2^61`, so `CORR` holds it exactly. -/
theorem toInt_corrLoop (h : xs.length ≤ 2 ^ 31) (len n : Nat) :
    (corrLoop ys (len / 2) n xs 0 0).toInt = exactCorr len xs ys n := by
  have hbound := abs_le.mp (abs_corrSumFrom_le ys (len / 2) n xs 0)
  rw [corrLoop_eq_add_ofInt, zero_add, exactCorr_eq_corrSumFrom, BitVec.toInt_ofInt,
    Int.bmod_eq_of_le] <;> omega

theorem xcorr_getElem? {len n : Nat} (h : n < len) (xs ys : List Sample) :
    (xcorr len xs ys)[n]? = some (corrLoop ys (len / 2) n xs 0 0) := by
  simp [xcorr, h]

theorem correlate_read_corr_of_lt {n : Nat} (h : xs.length ≤ 2 ^ 31) (hn : n < s.cfg.xcorrLen) :
    ∃ v, Store.read (correlate xs ys s).mem.corr n = some v ∧
      v.toInt = exactCorr s.cfg.xcorrLen xs ys n :=
  ⟨_, by rw [correlate_mem, Memory.corr_setCorr, Store.read_ofList, xcorr_getElem? hn],
    toInt_corrLoop h _ _⟩

theorem correlate_read_corr_of_le {n : Nat} (hn : s.cfg.xcorrLen ≤ n) :
    Store.read (correlate xs ys s).mem.corr n = none := by
  rw [correlate_mem, Memory.corr_setCorr, Store.read_ofList, List.getElem?_eq_none_iff, xcorr_length]
  exact hn

theorem execXcorrReal_of_values (hx : seriesValue s x = some xs) (hy : seriesValue s y = some ys) :
    execXcorrReal x y s = .next (correlate xs ys s) :=
  (execXcorrReal_eq_next x y s _).mpr ⟨xs, hx, ys, hy, rfl⟩

theorem execCalcLag_of_values (hx : seriesValue s x = some xs) (hy : seriesValue s y = some ys) :
    execCalcLag x y s = .next (returning (.lag (peakLag s.cfg xs ys)) (correlate xs ys s)) :=
  (execCalcLag_eq_next x y s _).mpr ⟨xs, hx, ys, hy, rfl⟩

/-! ### The centre element (R162) -/

/-- At the centre index the two series are read at the same place. -/
theorem exactCorr_centre (len : Nat) (h : xs.length = ys.length) :
    exactCorr len xs ys (len / 2) =
      (List.zipWith (fun (a b : Sample) => a.toInt * b.toInt) xs ys).sum := by
  rw [exactCorr]
  congr 1
  refine List.ext_getElem (by simp [h]) fun m hm _ => ?_
  have hmx : m < xs.length := by simpa using hm
  simp [paddedSample, hmx, h ▸ hmx]

/-! ### The peak (R163) -/

/-- `best` is the first index below `len` at which `f` is maximal. -/
structure IsFirstPeak (f : Nat → Int) (len best : Nat) : Prop where
  lt_len : best < len
  above_earlier : ∀ n, n < best → f n < f best
  le_peak : ∀ n, n < len → f n ≤ f best

theorem isFirstPeak_one (f : Nat → Int) : IsFirstPeak f 1 0 where
  lt_len := Nat.one_pos
  above_earlier n h := absurd h n.not_lt_zero
  le_peak n h := by rw [Nat.lt_one_iff.mp h]

/-- A greater element becomes the peak. -/
theorem IsFirstPeak.replace {f : Nat → Int} {len best : Nat} (h : IsFirstPeak f len best)
    (hgt : f best < f len) : IsFirstPeak f (len + 1) len where
  lt_len := Nat.lt_succ_self len
  above_earlier n hn := (h.le_peak n hn).trans_lt hgt
  le_peak n hn := (Nat.lt_succ_iff_lt_or_eq.mp hn).elim
    (fun hlt => ((h.le_peak n hlt).trans_lt hgt).le) (fun heq => heq ▸ le_refl _)

/-- An equal or smaller element does not: the first index wins ties. -/
theorem IsFirstPeak.keep {f : Nat → Int} {len best : Nat} (h : IsFirstPeak f len best)
    (hle : f len ≤ f best) : IsFirstPeak f (len + 1) best where
  lt_len := Nat.lt_succ_of_lt h.lt_len
  above_earlier := h.above_earlier
  le_peak n hn := (Nat.lt_succ_iff_lt_or_eq.mp hn).elim (h.le_peak n) (fun heq => heq ▸ hle)

/-- The scan extends the peak of the first `n` elements over the elements that follow. -/
theorem scanPeak_isFirstPeak {f : Nat → Int} (vs : List Acc) {n best : Nat} {bestv : Acc}
    (hvs : ∀ j v, vs[j]? = some v → v.toInt = f (n + j)) (hbest : bestv.toInt = f best)
    (h : IsFirstPeak f n best) : IsFirstPeak f (n + vs.length) (scanPeak vs n best bestv) := by
  induction vs generalizing n best bestv with
  | nil => exact h
  | cons v vs ih =>
    have hv : v.toInt = f n := hvs 0 v rfl
    have hrest : ∀ j w, vs[j]? = some w → w.toInt = f (n + 1 + j) := fun j w hw => by
      rw [Nat.add_right_comm, Nat.add_assoc]
      exact hvs (j + 1) w hw
    rw [List.length_cons, ← Nat.succ_add_eq_add_succ, scanPeak]
    split
    next hgt => exact ih hrest hv (h.replace (hbest ▸ hv ▸ hgt))
    next hle => exact ih hrest hbest (h.keep (hbest ▸ hv ▸ Int.not_lt.mp hle))

theorem peakIndex_isFirstPeak {f : Nat → Int} {vs : List Acc} (hne : 0 < vs.length)
    (hvs : ∀ j v, vs[j]? = some v → v.toInt = f j) : IsFirstPeak f vs.length (peakIndex vs) := by
  match vs, hne with
  | v :: vs, _ =>
    have hrest : ∀ j w, vs[j]? = some w → w.toInt = f (1 + j) := fun j w hw => by
      rw [Nat.add_comm]
      exact hvs (j + 1) w hw
    have hscan := scanPeak_isFirstPeak vs hrest (hvs 0 v rfl) (isFirstPeak_one f)
    rwa [Nat.add_comm] at hscan

/-- The scan of the buffer `XCORR_REAL` leaves finds the first peak of the exact correlation. -/
theorem peakIndex_xcorr_isFirstPeak {len : Nat} (hlen : 1 ≤ len) (h : xs.length ≤ 2 ^ 31) :
    IsFirstPeak (exactCorr len xs ys) len (peakIndex (xcorr len xs ys)) := by
  have hexact : ∀ j v, (xcorr len xs ys)[j]? = some v → v.toInt = exactCorr len xs ys j := by
    intro j v hv
    have hj : j < len := by simpa using (List.getElem?_eq_some_iff.mp hv).1
    rw [xcorr_getElem? hj, Option.some.injEq] at hv
    rw [← hv, toInt_corrLoop h]
  have hpeak := peakIndex_isFirstPeak (by rwa [xcorr_length]) hexact
  rwa [xcorr_length] at hpeak

/-- What a valid configuration says of the two lengths (R313). -/
theorem configValid_lengths {c : Config} (h : configValid c = true) :
    c.signalLen ≤ 2 ^ 31 ∧ 1 ≤ c.xcorrLen := by
  simp only [configValid, Bool.and_eq_true, decide_eq_true_eq] at h
  tauto

end Sys2Proof.Machine

open Sys2Proof Sys2Proof.Machine

/-- Settles O6: `CORR` is written whole, and each accumulator ends at a sum that does not wrap. -/
theorem xcorrRealIsExact : Obligations.XcorrRealIsExact := by
  intro s x y xs ys hx hy hlen
  have hshort : xs.length ≤ 2 ^ 31 := seriesValue_length hx ▸ hlen
  refine ⟨correlate xs ys s, execXcorrReal_of_values hx hy, rfl,
    fun n hn => correlate_read_corr_of_lt hshort hn, fun n hn => correlate_read_corr_of_le hn,
    fun b i => ?_, fun _ => rfl, fun _ _ => rfl⟩
  rw [Memory.readFrame, correlate_mem, Memory.buf_setCorr, Memory.readFrame]

/-- Settles O7: the exact element of O6 at the centre. -/
theorem corrCentreIsDotProduct : Obligations.CorrCentreIsDotProduct := by
  intro s x y xs ys hx hy hpos hlen
  have hsame : xs.length = ys.length := (seriesValue_length hx).trans (seriesValue_length hy).symm
  have hshort : xs.length ≤ 2 ^ 31 := seriesValue_length hx ▸ hlen
  obtain ⟨v, hread, hv⟩ := correlate_read_corr_of_lt (s := s) (ys := ys) hshort
    (Nat.div_lt_self hpos Nat.one_lt_two)
  exact ⟨correlate xs ys s, v, execXcorrReal_of_values hx hy, hread,
    hv.trans (exactCorr_centre _ hsame)⟩

/-- Settles O8: the scan keeps the first peak of the elements it has passed. -/
theorem calcLagIsFirstMaximum : Obligations.CalcLagIsFirstMaximum := by
  intro s x y xs ys hx hy hvalid
  obtain ⟨hlen, hpos⟩ := configValid_lengths hvalid
  have hpeak := peakIndex_xcorr_isFirstPeak (ys := ys) hpos (seriesValue_length hx ▸ hlen)
  exact ⟨returning (.lag (peakLag s.cfg xs ys)) (correlate xs ys s), correlate xs ys s,
    peakLag s.cfg xs ys, peakIndex (xcorr s.cfg.xcorrLen xs ys), execCalcLag_of_values hx hy,
    execXcorrReal_of_values hx hy, rfl, hpeak.lt_len, rfl, hpeak.above_earlier, hpeak.le_peak⟩
end

section
/-! The lag table and the lag-to-angle mapper ANG (O9 to O13): the scan of the cosine table finds
its first entry at or below the target, under a valid configuration every target of the table is in
reach of it, and the fold and the lookup work on the table's own lags (R175 to R181). -/

-- One after another, like the tests: elaboration in parallel asks for more threads.
set_option Elab.async false

namespace Sys2Proof.Machine

variable {s : State} {c : Config}

/-! ### The scan of the cosine table (R175, R176) -/

theorem scanDegrees_of_exists {target : Int} {t : List Int} (h : ∃ cos ∈ t, cos ≤ target)
    (d : Nat) : scanDegrees target t d = d + t.findIdx (fun cos => decide (cos ≤ target)) := by
  induction t generalizing d with
  | nil => simp at h
  | cons cos rest ih =>
    rw [scanDegrees, List.findIdx_cons]
    by_cases hcos : cos ≤ target
    · simp [hcos]
    · have hrest : ∃ cos ∈ rest, cos ≤ target := by simpa [hcos] using h
      simp only [hcos, if_false, decide_false, cond_false, ih hrest]
      omega

theorem scanDegrees_of_forall_lt {target : Int} {t : List Int} (h : ∀ cos ∈ t, target < cos)
    (d : Nat) : scanDegrees target t d = 0 := by
  induction t generalizing d with
  | nil => rfl
  | cons cos rest ih =>
    rw [scanDegrees, if_neg (Int.not_le.mpr (h cos List.mem_cons_self))]
    exact ih (fun cos' hcos' => h cos' (List.mem_cons_of_mem _ hcos')) (d + 1)

/-- The first degree whose cosine is at most the target; 181, past the table, if there is none. -/
def firstDegree (target : Int) : Nat := costab.findIdx (fun cos => decide (cos ≤ target))

theorem lagDegree_of_exists {lag : Int} (h : ∃ cos ∈ costab, cos ≤ cosTheta c lag) :
    lagDegree c lag = firstDegree (cosTheta c lag) := by
  rw [lagDegree, scanDegrees_of_exists h, Nat.zero_add, firstDegree]

/-- `d` is the smallest degree whose cosine is at most the target. -/
structure IsSmallestDegree (target : Int) (d : Nat) : Prop where
  reaches : ∃ cos, costab[d]? = some cos ∧ cos ≤ target
  above_earlier : ∀ e < d, ∃ higher, costab[e]? = some higher ∧ target < higher

theorem firstDegree_isSmallestDegree {target : Int} (h : ∃ cos ∈ costab, cos ≤ target) :
    IsSmallestDegree target (firstDegree target) := by
  have hlt : firstDegree target < costab.length :=
    List.findIdx_lt_length_of_exists (by simpa using h)
  refine ⟨⟨costab[firstDegree target], List.getElem?_eq_getElem hlt, ?_⟩, fun e he =>
    ⟨costab[e], List.getElem?_eq_getElem (he.trans hlt), ?_⟩⟩
  · exact of_decide_eq_true (List.findIdx_getElem (w := hlt))
  · exact Int.not_le.mp (of_decide_eq_false (List.not_of_lt_findIdx he))

/-- R175 for one lag: the smallest qualifying degree, or the default. -/
theorem lagDegree_spec (c : Config) (lag : Int) :
    IsSmallestDegree (cosTheta c lag) (lagDegree c lag) ∨
      (lagDegree c lag = 0 ∧ ∀ cos ∈ costab, cosTheta c lag < cos) := by
  by_cases h : ∃ cos ∈ costab, cos ≤ cosTheta c lag
  · rw [lagDegree_of_exists h]
    exact .inl (firstDegree_isSmallestDegree h)
  · have hlt : ∀ cos ∈ costab, cosTheta c lag < cos := by simpa using h
    exact .inr ⟨scanDegrees_of_forall_lt hlt 0, hlt⟩

/-- A higher target is reached no later. -/
theorem firstDegree_anti {a b : Int} (h : a ≤ b) : firstDegree b ≤ firstDegree a :=
  List.findIdx_le_findIdx fun _ _ hcos =>
    decide_eq_true ((of_decide_eq_true hcos).trans h)

theorem firstDegree_zero : firstDegree 0 = 90 := by decide +kernel

/-- The table's least cosine stands at degree 179 first. -/
theorem firstDegree_least : firstDegree (-1000) = 179 := by decide +kernel

theorem least_mem_costab : (-1000 : Int) ∈ costab := by decide +kernel

theorem lagDegree_of_least_le {lag : Int} (h : -1000 ≤ cosTheta c lag) :
    lagDegree c lag = firstDegree (cosTheta c lag) :=
  lagDegree_of_exists ⟨-1000, least_mem_costab, h⟩

/-! ### The entries of the table (R175) -/

/-- The lag of table index `j`. -/
def tableLag (c : Config) (j : Nat) : Int := (j : Int) - ((c.k / 2 : Nat) : Int)

theorem genLagTable_getElem? {j : Nat} (h : j < c.k) :
    (genLagTable c)[j]? = some (BitVec.ofNat 8 (lagDegree c (tableLag c j))) := by
  simp [genLagTable, tableLag, h]

/-- A degree fits its byte. -/
theorem toNat_ofNat_lagDegree (c : Config) (lag : Int) :
    (BitVec.ofNat 8 (lagDegree c lag)).toNat = lagDegree c lag := by
  have hle := lagDegree_le c lag
  rw [BitVec.toNat_ofNat, Nat.mod_eq_of_lt (by omega)]

theorem toNat_of_genLagTable_getElem? {j : Nat} {d : Byte}
    (h : (genLagTable c)[j]? = some d) : j < c.k ∧ d.toNat = lagDegree c (tableLag c j) := by
  have hj : j < c.k := by simpa using (List.getElem?_eq_some_iff.mp h).1
  rw [genLagTable_getElem? hj, Option.some.injEq] at h
  exact ⟨hj, h ▸ toNat_ofNat_lagDegree c _⟩

/-! ### The cosine proxy under a valid configuration (R177, R178) -/

/-- What a valid configuration says of the geometry (R313). -/
theorem configValid_geometry (h : configValid c = true) :
    c.k = geometryK c ∧ 3 ≤ c.k ∧ 1 ≤ c.dMicsMm := by
  simp only [configValid, Bool.and_eq_true, decide_eq_true_eq, beq_iff_eq] at h
  tauto

theorem configValid_k_odd (h : configValid c = true) : c.k % 2 = 1 := by
  obtain ⟨hk, -, -⟩ := configValid_geometry h
  rw [geometryK] at hk
  omega

theorem cosTheta_mono (hd : 1 ≤ c.dMicsMm) {a b : Int} (h : a ≤ b) :
    cosTheta c a ≤ cosTheta c b := by
  refine Int.tdiv_le_tdiv (by omega) ?_
  exact mul_le_mul_of_nonneg_right (mul_le_mul_of_nonneg_right h (Int.natCast_nonneg _))
    (Int.natCast_nonneg _)

theorem cosTheta_neg (c : Config) (lag : Int) : cosTheta c (-lag) = -cosTheta c lag := by
  simp only [cosTheta, tdiv, Int.neg_mul, Int.neg_tdiv]

@[simp] theorem cosTheta_zero (c : Config) : cosTheta c 0 = 0 := by simp [cosTheta, tdiv]

/-- The table's length is chosen so that the sound's way at its last lag is at most the distance of
the microphones. -/
theorem cosTheta_half_le (h : configValid c = true) :
    cosTheta c ((c.k / 2 : Nat) : Int) ≤ 1000 := by
  obtain ⟨hk, -, hd⟩ := configValid_geometry h
  have hhalf : c.k / 2 = c.dMicsMm * 1000 / (c.tSUs * c.vSound) := by
    rw [hk, geometryK]
    omega
  have hway : c.k / 2 * c.tSUs * c.vSound ≤ 1000 * c.dMicsMm := by
    rw [hhalf, Nat.mul_assoc, Nat.mul_comm 1000]
    exact Nat.div_mul_le_self _ _
  calc cosTheta c ((c.k / 2 : Nat) : Int)
      = (((c.k / 2 : Nat) : Int) * c.tSUs * c.vSound).tdiv c.dMicsMm := rfl
    _ ≤ (1000 * (c.dMicsMm : Int)).tdiv c.dMicsMm :=
      Int.tdiv_le_tdiv (by omega) (by exact_mod_cast hway)
    _ = 1000 := Int.mul_tdiv_cancel _ (by omega)

theorem cosTheta_bounds (h : configValid c = true) {lag : Int}
    (hlow : -((c.k / 2 : Nat) : Int) ≤ lag) (hhigh : lag ≤ ((c.k / 2 : Nat) : Int)) :
    -1000 ≤ cosTheta c lag ∧ cosTheta c lag ≤ 1000 := by
  obtain ⟨-, -, hd⟩ := configValid_geometry h
  have hhalf := cosTheta_half_le h
  have hleft := cosTheta_mono hd hlow
  have hright := cosTheta_mono hd hhigh
  rw [cosTheta_neg] at hleft
  omega

theorem cosTheta_tableLag_bounds (h : configValid c = true) {j : Nat} (hj : j < c.k) :
    -1000 ≤ cosTheta c (tableLag c j) ∧ cosTheta c (tableLag c j) ≤ 1000 := by
  have hodd := configValid_k_odd h
  exact cosTheta_bounds h (by rw [tableLag]; omega) (by rw [tableLag]; omega)

/-! ### The table of a valid configuration (R178) -/

theorem lagDegree_tableLag (h : configValid c = true) {j : Nat} (hj : j < c.k) :
    lagDegree c (tableLag c j) = firstDegree (cosTheta c (tableLag c j)) :=
  lagDegree_of_least_le (cosTheta_tableLag_bounds h hj).1

theorem lagDegree_tableLag_le (h : configValid c = true) {j : Nat} (hj : j < c.k) :
    lagDegree c (tableLag c j) ≤ 179 := by
  rw [lagDegree_tableLag h hj, ← firstDegree_least]
  exact firstDegree_anti (cosTheta_tableLag_bounds h hj).1

theorem lagDegree_tableLag_anti (h : configValid c = true) {i j : Nat} (hij : i ≤ j)
    (hj : j < c.k) : lagDegree c (tableLag c j) ≤ lagDegree c (tableLag c i) := by
  obtain ⟨-, -, hd⟩ := configValid_geometry h
  rw [lagDegree_tableLag h hj, lagDegree_tableLag h (hij.trans_lt hj)]
  exact firstDegree_anti (cosTheta_mono hd (by rw [tableLag, tableLag]; omega))

/-- Broadside: lag 0 has the cosine 0. -/
theorem genLagTable_centre (h : configValid c = true) : (genLagTable c)[c.k / 2]? = some 90 := by
  obtain ⟨-, hk, -⟩ := configValid_geometry h
  have hj : c.k / 2 < c.k := by omega
  have hzero : tableLag c (c.k / 2) = 0 := Int.sub_self _
  rw [genLagTable_getElem? hj, lagDegree_tableLag h hj, hzero, cosTheta_zero, firstDegree_zero]
  rfl

/-! ### The fold (R179) -/

theorem foldLag_of_window {k : Nat} {lag : Int} (hlow : -((k / 2 : Nat) : Int) ≤ lag)
    (hhigh : lag ≤ ((k / 2 : Nat) : Int)) : foldLag k lag = lag := by
  simp only [foldLag]
  rw [if_neg (Int.not_lt.mpr hhigh), if_neg (Int.not_lt.mpr hlow)]

theorem foldLag_of_above {k : Nat} {lag : Int} (h : ((k / 2 : Nat) : Int) < lag) :
    foldLag k lag = -((k / 2 : Nat) : Int) + trem lag ((k / 2 : Nat) : Int) := by
  simp only [foldLag]
  rw [if_pos h]

theorem foldLag_of_below {k : Nat} {lag : Int} (h : lag < -((k / 2 : Nat) : Int)) :
    foldLag k lag = ((k / 2 : Nat) : Int) + trem lag (-((k / 2 : Nat) : Int)) := by
  simp only [foldLag]
  rw [if_neg (by omega), if_pos h]

theorem trem_eq_exactTdiv (a b : Int) : trem a b = a - b * exactTdiv a b := by
  rw [trem, tdiv_eq_exactTdiv]

/-- The remainder of a negative dividend by a negative divisor is not positive. -/
theorem trem_neg_bounds {a b : Int} (ha : a ≤ 0) (hb : 0 < b) :
    -b < trem a (-b) ∧ trem a (-b) ≤ 0 := by
  have hsign := trem_neg_neg (-a) b
  rw [Int.neg_neg] at hsign
  have hbounds := trem_bounds_of_pos (a := -a) (by omega) hb
  omega

/-! ### The lookup (R180) -/

theorem inLagWindow_iff (k : Nat) (lag : Int) : inLagWindow k lag = true ↔
    -((k / 2 : Nat) : Int) ≤ lag ∧ lag ≤ ((k / 2 : Nat) : Int) := decide_eq_true_iff

theorem withAngle_of_entry {lag : Int} {d : Byte} (hw : inLagWindow s.cfg.k lag = true)
    (hd : s.lagTab[lagIndex s.cfg.k lag]? = some d) (k : Byte → StepOutcome) :
    withAngle s lag k = k d := by
  rw [withAngle, if_pos hw, hd, orNoValue]

/-- The table of a valid configuration has a bearing for every lag of the window. -/
theorem withAngle_of_table (hc : configValid s.cfg = true) (ht : s.lagTab = genLagTable s.cfg)
    {lag : Int} (hw : inLagWindow s.cfg.k lag = true) :
    ∃ d : Byte, d.toNat ≤ 180 ∧ ∀ k : Byte → StepOutcome, withAngle s lag k = k d := by
  have hd := genLagTable_getElem? (lagIndex_lt (configValid_k_odd hc) hw)
  exact ⟨_, toNat_le_of_genLagTable hd, withAngle_of_entry hw (ht ▸ hd)⟩

theorem execLagToAngle_of_entry {lag : Int} {d : Byte} (hw : inLagWindow s.cfg.k lag = true)
    (hd : s.lagTab[lagIndex s.cfg.k lag]? = some d) :
    execLagToAngle lag s = .next (returning (.degree d) s) := withAngle_of_entry hw hd _

theorem execLagToAngle_of_outside {lag : Int} (hw : inLagWindow s.cfg.k lag = false) :
    execLagToAngle lag s = .refused .lagOutsideWindow := by
  rw [execLagToAngle, withAngle, hw]
  rfl

/-! ### The composition (R181) -/

theorem execCalcAngle_of_values {x y : SeriesRef} {xs ys : List Sample}
    (hx : seriesValue s x = some xs) (hy : seriesValue s y = some ys) :
    execCalcAngle x y s = withAngle s (reducedLag s.cfg (peakLag s.cfg xs ys))
      (fun d => .next (returning (.degree d) (correlate xs ys s))) := by
  rw [execCalcAngle, withSeries_of_value hx, withSeries_of_value hy]

end Sys2Proof.Machine

open Sys2Proof Sys2Proof.Machine

/-- Settles O9: an entry is what the scan of R175 finds for the lag of its index. -/
theorem genLagTableEntries : Obligations.GenLagTableEntries := by
  intro s
  refine ⟨{ s with lagTab := genLagTable s.cfg }, rfl, rfl, genLagTable_length _, fun j hj =>
    ⟨_, genLagTable_getElem? hj, cosTheta s.cfg (tableLag s.cfg j), tdiv_eq_exactTdiv _ _, ?_⟩⟩
  rw [toNat_ofNat_lagDegree]
  rcases lagDegree_spec s.cfg (tableLag s.cfg j) with hspec | ⟨hzero, habove⟩
  · obtain ⟨cos, hcos, hle⟩ := hspec.reaches
    exact .inl ⟨cos, hcos, hle, hspec.above_earlier⟩
  · exact .inr ⟨by rw [hzero]; rfl, habove⟩

/-- Settles O10: every target of the table lies within the cosines, and a higher target is reached
at a smaller degree. -/
theorem lagTableOfValidConfig : Obligations.LagTableOfValidConfig := by
  intro c hc
  refine ⟨configValid_k_odd hc, fun j hj => cosTheta_tableLag_bounds hc hj, fun j hj =>
    ⟨_, genLagTable_getElem? hj, ?_⟩, genLagTable_centre hc, fun i j d e hij hd he => ?_⟩
  · rw [toNat_ofNat_lagDegree]
    exact lagDegree_tableLag_le hc hj
  · obtain ⟨-, hdeg⟩ := toNat_of_genLagTable_getElem? hd
    obtain ⟨hj, heq⟩ := toNat_of_genLagTable_getElem? he
    rw [hdeg, heq]
    exact lagDegree_tableLag_anti hc hij hj

/-- Settles O11: a case for each side of the window, with the remainder's range on that side. -/
theorem reduceLagFolds : Obligations.ReduceLagFolds := by
  intro s lag half hk hhalf
  have hpos : 0 < half := by omega
  refine ⟨foldLag s.cfg.k lag, rfl, ?_⟩
  subst hhalf
  refine ⟨foldLag_of_window, fun habove => ?_, fun hbelow => ?_⟩
  · have hrem := trem_bounds_of_pos (a := lag) (by omega) hpos
    rw [foldLag_of_above habove]
    exact ⟨by rw [trem_eq_exactTdiv], by omega, by omega⟩
  · have hrem := trem_neg_bounds (a := lag) (by omega) hpos
    rw [foldLag_of_below hbelow]
    exact ⟨by rw [trem_eq_exactTdiv], by omega, by omega⟩

/-- Settles O12: the window is the condition of the lookup, and the table of a valid configuration
covers it. -/
theorem lagToAngleReadsTable : Obligations.LagToAngleReadsTable := by
  intro s lag
  refine ⟨fun d hlow hhigh hd => ?_, fun hout => ?_, fun hc ht => ⟨fun hlow hhigh => ?_, ?_⟩⟩
  · exact execLagToAngle_of_entry ((inLagWindow_iff _ _).mpr ⟨hlow, hhigh⟩) hd
  · refine execLagToAngle_of_outside (Bool.eq_false_iff.mpr fun hw => ?_)
    have hin := (inLagWindow_iff _ _).mp hw
    omega
  · obtain ⟨d, hd, hlookup⟩ :=
      withAngle_of_table hc ht ((inLagWindow_iff _ lag).mpr ⟨hlow, hhigh⟩)
    exact ⟨d, hd, hlookup _⟩
  · have hcentre : lagIndex s.cfg.k 0 = s.cfg.k / 2 := by rw [lagIndex]; omega
    have hzero : inLagWindow s.cfg.k 0 = true := (inLagWindow_iff _ _).mpr (by omega)
    exact execLagToAngle_of_entry hzero (by rw [hcentre, ht, genLagTable_centre hc])

/-- Settles O13: the three operations read the configuration and the table only, which the first two
leave alone; a folded lag is in the window, so the lookup answers. -/
theorem calcAngleComposes : Obligations.CalcAngleComposes := by
  intro s x y
  refine ⟨fun u v w lag lag' hu hlag hv hlag' hw => ?_, fun xs ys hx hy hc ht => ?_⟩
  · obtain ⟨xs, hx, ys, hy, rfl⟩ := (execCalcLag_eq_next x y s u).mp hu
    obtain rfl := Returned.lag.inj hlag
    obtain rfl := Host.Outcome.next.inj hv
    obtain rfl := Returned.lag.inj hlag'
    obtain ⟨hwindow, d, hd, hnext⟩ := (withAngle_eq_next ..).mp hw
    exact (execCalcAngle_of_values hx hy).trans ((withAngle_of_entry hwindow hd _).trans hnext)
  · obtain ⟨-, hk, -⟩ := configValid_geometry hc
    obtain ⟨d, hd, hlookup⟩ :=
      withAngle_of_table hc ht (foldLag_inLagWindow hk (peakLag s.cfg xs ys))
    exact ⟨_, correlate xs ys s, d, (execCalcAngle_of_values hx hy).trans (hlookup _),
      execXcorrReal_of_values hx hy, hd, rfl⟩
end

section
/-! Where instructions stop (O45): one lemma says everything an instruction can answer under the
invariant, a next state, one of two refusals, or a fault on an element of `BUF`, `RAW` or `CH` that
nothing has written (43_angle R180, 10_state R49). -/

-- One after another, as above.
set_option Elab.async false

namespace Sys2Proof.Machine

variable {s : State} {i : Instr} {x y : SeriesRef}

/-! ### Operands -/

theorem readAll_of_not_written {α : Type} {st : Store α} {n : Nat} (h : ¬ written st n) :
    Store.readAll st n = none :=
  Option.eq_none_iff_forall_ne_some.mpr fun vs hvs => h ((Store.readAll_isSome ..).mp ⟨vs, hvs⟩)

/-- A series operand is refused, faults, or goes on, and each for one reason only. -/
theorem withSeries_cases (s : State) (x : SeriesRef) :
    (x.wellFormed s.cfg.signalLen = false ∧ ∀ k, withSeries s x k = .refused .illFormed) ∨
    (readsUnwritten s x ∧ ∀ k, withSeries s x k = .fault (.noValue .ch)) ∨
    (x.wellFormed s.cfg.signalLen = true ∧ ¬ readsUnwritten s x ∧
      ∃ xs, ∀ k, withSeries s x k = k xs) := by
  cases x with
  | values xs =>
    cases hwf : (SeriesRef.values xs).wellFormed s.cfg.signalLen with
    | false => exact .inl ⟨rfl, fun k => by simp [withSeries, hwf]⟩
    | true => exact .inr (.inr ⟨rfl, id, xs, fun k => by simp [withSeries, hwf]⟩)
  | channel c =>
    by_cases hw : written (s.mem.ch.get c) s.cfg.signalLen
    · obtain ⟨xs, hxs⟩ := (Store.readAll_isSome ..).mpr hw
      exact .inr (.inr ⟨rfl, not_not.mpr hw, xs, withSeries_of_value (x := .channel c) hxs⟩)
    · exact .inr (.inl ⟨hw, fun k => by rw [withSeries, readAll_of_not_written hw, orNoValue]⟩)

theorem exists_not_written_of_readsUnwritten (h : readsUnwritten s x) :
    ∃ c, ¬ written (s.mem.ch.get c) s.cfg.signalLen := by
  cases x with
  | values xs => exact h.elim
  | channel c => exact ⟨c, h⟩

/-- An operation that goes on to a next state once it has the values of its two series. -/
def onTwoSeries (s : State) (x y : SeriesRef) (f : List Sample → List Sample → State) :
    StepOutcome :=
  withSeries s x (fun xs => withSeries s y (fun ys => .next (f xs ys)))

theorem onTwoSeries_cases (s : State) (x y : SeriesRef) (f : List Sample → List Sample → State) :
    ((x.wellFormed s.cfg.signalLen && y.wellFormed s.cfg.signalLen) = false ∧
      onTwoSeries s x y f = .refused .illFormed) ∨
    ((readsUnwritten s x ∨ readsUnwritten s y) ∧ onTwoSeries s x y f = .fault (.noValue .ch)) ∨
    ((x.wellFormed s.cfg.signalLen && y.wellFormed s.cfg.signalLen) = true ∧
      ¬ (readsUnwritten s x ∨ readsUnwritten s y) ∧ ∃ t, onTwoSeries s x y f = .next t) := by
  unfold onTwoSeries
  rcases withSeries_cases s x with ⟨hx, e⟩ | ⟨hx, e⟩ | ⟨hx, hxw, xs, e⟩ <;> rw [e]
  · exact .inl ⟨by rw [hx, Bool.false_and], rfl⟩
  · exact .inr (.inl ⟨.inl hx, rfl⟩)
  · rcases withSeries_cases s y with ⟨hy, e'⟩ | ⟨hy, e'⟩ | ⟨hy, hyw, ys, e'⟩ <;> rw [e']
    · exact .inl ⟨by rw [hy, Bool.and_false], rfl⟩
    · exact .inr (.inl ⟨.inr hy, rfl⟩)
    · exact .inr (.inr ⟨by rw [hx, hy, Bool.true_and], not_or.mpr ⟨hxw, hyw⟩, _, rfl⟩)

theorem onTwoSeries_eq_fault_iff (hx : x.wellFormed s.cfg.signalLen = true)
    (hy : y.wellFormed s.cfg.signalLen = true) (f : List Sample → List Sample → State) :
    onTwoSeries s x y f = .fault (.noValue .ch) ↔ readsUnwritten s x ∨ readsUnwritten s y := by
  rcases onTwoSeries_cases s x y f with ⟨hwf, -⟩ | ⟨hu, e⟩ | ⟨-, hw, t, e⟩
  · rw [hx, hy] at hwf
    exact nomatch hwf
  · exact iff_of_true e hu
  · exact iff_of_false (by rw [e]; exact nofun) hw

/-- The instruction works on the series `x` and `y`. -/
def WorksOnSeries (i : Instr) (x y : SeriesRef) : Prop :=
  i = .xcorrReal x y ∨ i = .calcLag x y ∨ i = .calcAngle x y

theorem WorksOnSeries.wellFormed_eq (hi : WorksOnSeries i x y) (n : Nat) :
    i.wellFormed n = (x.wellFormed n && y.wellFormed n) := by
  rcases hi with rfl | rfl | rfl <;> rfl

/-- `CALC_ANGLE` always finds its bearing, so its operands alone can stop it. -/
theorem StepInv.exec_eq_onTwoSeries (h : StepInv s) (hi : WorksOnSeries i x y) :
    ∃ f, exec i s = onTwoSeries s x y f := by
  rcases hi with rfl | rfl | rfl
  · exact ⟨_, rfl⟩
  · exact ⟨_, rfl⟩
  · choose bearing _ hlookup using h.withAngle_reducedLag
    refine ⟨fun xs ys => Machine.returning (.degree (bearing (peakLag s.cfg xs ys)))
      (Machine.correlate xs ys s), ?_⟩
    simp only [exec, execCalcAngle, hlookup, onTwoSeries]

theorem execFromBatch_buffer_of_not_written {b : Fin 2}
    (hw : ¬ written (s.mem.buf b) s.cfg.signalLen) :
    execFromBatch (.buffer b) s = .fault (.noValue .buf) := by
  rw [execFromBatch, withBatch, readAll_of_not_written hw, orNoValue]

theorem execFromBatch_buffer_of_written {b : Fin 2} (hw : written (s.mem.buf b) s.cfg.signalLen) :
    ∃ t, execFromBatch (.buffer b) s = .next t := by
  obtain ⟨fs, hfs⟩ := (Store.readAll_isSome ..).mpr hw
  exact ⟨_, execFromBatch_of_value (b := .buffer b) hfs⟩

/-! ### The DoA task -/

/-- An outcome is a next state, or a fault on an element of a store other than the lag table. -/
def NextOrUnwritten (o : StepOutcome) : Prop :=
  (∃ t, o = .next t) ∨ ∃ store, store ≠ .lagTab ∧ o = .fault (.noValue store)

theorem NextOrUnwritten.next (t : State) : NextOrUnwritten (.next t) := .inl ⟨t, rfl⟩

theorem NextOrUnwritten.orNoValue {α : Type} {store : StoreName} (hs : store ≠ .lagTab)
    (v : Option α) {k : α → StepOutcome} (hk : ∀ a, NextOrUnwritten (k a)) :
    NextOrUnwritten (orNoValue store v k) := by
  cases v with
  | none => exact .inr ⟨store, hs, rfl⟩
  | some a => exact hk a

theorem NextOrUnwritten.thenDo {o : StepOutcome} {k : State → StepOutcome} (ho : NextOrUnwritten o)
    (hk : ∀ t, o = .next t → NextOrUnwritten (k t)) : NextOrUnwritten (thenDo o k) := by
  rcases ho with ⟨t, rfl⟩ | ⟨store, hs, rfl⟩
  · exact hk t rfl
  · exact .inr ⟨store, hs, rfl⟩

theorem NextOrUnwritten.ite {p : Prop} [Decidable p] {o o' : StepOutcome} (h : NextOrUnwritten o)
    (h' : NextOrUnwritten o') : NextOrUnwritten (if p then o else o') := by
  split
  · exact h
  · exact h'

theorem nextOrUnwritten_doaCopy (s : State) : NextOrUnwritten (doaCopy s) :=
  have hqueued (t : State) : NextOrUnwritten (doaQueueRaw t) :=
    .orNoValue (store := .raw) nofun _ fun _ => .next _
  .orNoValue (store := .buf) nofun _ fun _ => .ite (hqueued _) (.next _)

theorem nextOrUnwritten_doaDemux (s : State) : NextOrUnwritten (doaDemux s) :=
  have hended (t : State) : NextOrUnwritten (doaEndChannel t) :=
    .orNoValue (store := .ch) nofun _ fun _ => .ite (.next _) (.next _)
  .orNoValue (store := .buf) nofun _ fun _ => .ite (hended _) (.next _)

/-- The fold makes the lookup safe, and channels are well-formed operands. -/
theorem StepInv.nextOrUnwritten_doaAxis (h : StepInv s) (a : Axis) :
    NextOrUnwritten (Machine.doaAxis a s) := by
  choose bearing _ hlookup using h.withAngle_reducedLag
  have hform : Machine.doaAxis a s = onTwoSeries s (.channel (s.cfg.pair a).1)
      (.channel (s.cfg.pair a).2)
      (fun xs ys => Machine.axisComputed a xs ys (bearing (peakLag s.cfg xs ys)) s) := by
    simp only [Machine.doaAxis, hlookup, onTwoSeries, Machine.axisComputed]
  rw [hform]
  rcases onTwoSeries_cases s (.channel _) (.channel _) _ with ⟨hwf, -⟩ | ⟨-, e⟩ | ⟨-, -, t, e⟩
  · exact nomatch (show true = false from hwf)
  · exact .inr ⟨.ch, nofun, e⟩
  · exact .inl ⟨t, e⟩

theorem StepInv.nextOrUnwritten_doaCompute (h : StepInv s) : NextOrUnwritten (doaCompute s) :=
  .thenDo (h.nextOrUnwritten_doaAxis .pan) fun _ hu =>
    .thenDo ((h.doaAxis hu).nextOrUnwritten_doaAxis .tilt) fun _ _ => .next _

theorem StepInv.nextOrUnwritten_execTDoa (h : StepInv s) :
    NextOrUnwritten (Machine.execTDoa s) := by
  rcases execTDoa_cases s with e | e | e | e <;> rw [e]
  · exact .next _
  · exact nextOrUnwritten_doaCopy s
  · exact nextOrUnwritten_doaDemux s
  · exact h.nextOrUnwritten_doaCompute

/-! ### Operations that only check their operands -/

theorem exists_execDeserialize (payload : List Byte) (s : State) :
    ∃ t, execDeserialize payload s = .next t := by
  unfold execDeserialize
  split <;> exact ⟨_, rfl⟩

theorem exists_execUnstuff (body : List Byte) (s : State) :
    ∃ t, execUnstuff body s = ifWellFormed (body.all (· != 0)) (.next t) := by
  unfold execUnstuff
  split <;> exact ⟨_, rfl⟩

theorem exists_execSend (frame : List Byte) (s : State) :
    ∃ t, execSend frame s = ifWellFormed (frame.getLast? == some 0) (.next t) := by
  unfold execSend
  split <;> exact ⟨_, rfl⟩

theorem exists_execHCaptureComplete (s : State) : ∃ t, execHCaptureComplete s = .next t := by
  rw [execHCaptureComplete_eq]
  split <;> exact ⟨_, rfl⟩

theorem exists_execHRx (s : State) : ∃ t, execHRx s = .next t := by
  unfold execHRx
  split <;> exact ⟨_, rfl⟩

theorem exists_execTCommand (s : State) : ∃ t, execTCommand s = .next t := by
  unfold execTCommand
  split <;> exact ⟨_, rfl⟩

theorem exists_execTTransmit (s : State) : ∃ t, execTTransmit s = .next t := by
  unfold execTTransmit
  split
  · exact ⟨_, rfl⟩
  · split <;> exact ⟨_, rfl⟩

/-! ### Every instruction -/

/-- What an instruction can answer under the invariant, and for which reason it stops. -/
inductive Answer (s : State) (i : Instr) : Prop where
  | next (t : State) (h : exec i s = .next t) (hwf : i.wellFormed s.cfg.signalLen = true)
  | illFormed (h : exec i s = .refused .illFormed) (hwf : i.wellFormed s.cfg.signalLen = false)
  | outsideWindow (lag : Int) (hi : i = .lagToAngle lag) (hw : inLagWindow s.cfg.k lag = false)
      (h : exec i s = .refused .lagOutsideWindow)
  | batchUnwritten (b : Fin 2) (hi : i = .fromBatch (.buffer b))
      (h : exec i s = .fault (.noValue .buf))
  | seriesUnwritten (x y : SeriesRef) (hi : WorksOnSeries i x y)
      (hu : readsUnwritten s x ∨ readsUnwritten s y) (h : exec i s = .fault (.noValue .ch))
  | doaUnwritten (store : StoreName) (hi : i = .tDoa) (hs : store ≠ .lagTab)
      (h : exec i s = .fault (.noValue store))

theorem Answer.of_ifWellFormed
    (h : ∃ t, exec i s = ifWellFormed (i.wellFormed s.cfg.signalLen) (.next t)) : Answer s i := by
  obtain ⟨t, h⟩ := h
  cases hwf : i.wellFormed s.cfg.signalLen with
  | false => exact .illFormed (by rw [h, hwf]; rfl) hwf
  | true => exact .next t (by rw [h, hwf]; rfl) hwf

theorem answer_fromBatch (s : State) (b : BatchRef) : Answer s (.fromBatch b) := by
  cases b with
  | values frames => exact .of_ifWellFormed ⟨demuxBatch frames s, rfl⟩
  | buffer b =>
    by_cases hw : written (s.mem.buf b) s.cfg.signalLen
    · obtain ⟨t, e⟩ := execFromBatch_buffer_of_written hw
      exact .next t e rfl
    · exact .batchUnwritten b rfl (execFromBatch_buffer_of_not_written hw)

theorem StepInv.answer_of_worksOnSeries (h : StepInv s) (hi : WorksOnSeries i x y) :
    Answer s i := by
  obtain ⟨f, hf⟩ := h.exec_eq_onTwoSeries hi
  rcases onTwoSeries_cases s x y f with ⟨hwf, e⟩ | ⟨hu, e⟩ | ⟨hwf, -, t, e⟩
  · exact .illFormed (hf.trans e) ((hi.wellFormed_eq _).trans hwf)
  · exact .seriesUnwritten x y hi hu (hf.trans e)
  · exact .next t (hf.trans e) ((hi.wellFormed_eq _).trans hwf)

theorem StepInv.answer_lagToAngle (h : StepInv s) (lag : Int) : Answer s (.lagToAngle lag) := by
  cases hw : inLagWindow s.cfg.k lag with
  | false => exact .outsideWindow lag rfl hw (execLagToAngle_of_outside hw)
  | true =>
    obtain ⟨d, -, hlookup⟩ := withAngle_of_table h.cfgValid h.table hw
    exact .next _ (hlookup _) rfl

theorem StepInv.answer_tDoa (h : StepInv s) : Answer s .tDoa := by
  rcases h.nextOrUnwritten_execTDoa with ⟨t, e⟩ | ⟨store, hs, e⟩
  · exact .next t e rfl
  · exact .doaUnwritten store rfl hs e

/-- The operations named here read a store or the table, or have cases; every other one is the check
of its operands and a next state. -/
theorem StepInv.answer (h : StepInv s) (i : Instr) : Answer s i := by
  cases i with
  | fromBatch b => exact answer_fromBatch s b
  | xcorrReal x y => exact h.answer_of_worksOnSeries (.inl rfl)
  | calcLag x y => exact h.answer_of_worksOnSeries (.inr (.inl rfl))
  | calcAngle x y => exact h.answer_of_worksOnSeries (.inr (.inr rfl))
  | lagToAngle lag => exact h.answer_lagToAngle lag
  | tDoa => exact h.answer_tDoa
  | deserialize payload => exact .of_ifWellFormed (exists_execDeserialize payload s)
  | unstuff body => exact .of_ifWellFormed (exists_execUnstuff body s)
  | send frame => exact .of_ifWellFormed (exists_execSend frame s)
  | hCaptureComplete => exact .of_ifWellFormed (exists_execHCaptureComplete s)
  | hRx => exact .of_ifWellFormed (exists_execHRx s)
  | tCommand => exact .of_ifWellFormed (exists_execTCommand s)
  | tTransmit => exact .of_ifWellFormed (exists_execTTransmit s)
  | _ => exact .of_ifWellFormed ⟨_, rfl⟩

/-- A refusal has one of two names, each with its reason. -/
theorem Answer.refused_cases (h : Answer s i) {r : Refusal} (hr : exec i s = .refused r) :
    (r = .lagOutsideWindow ∧ ∃ lag, i = .lagToAngle lag ∧ inLagWindow s.cfg.k lag = false) ∨
      (r = .illFormed ∧ i.wellFormed s.cfg.signalLen = false) := by
  cases h with
  | illFormed e hwf => exact .inr ⟨(Host.Outcome.refused.inj (e.symm.trans hr)).symm, hwf⟩
  | outsideWindow lag hi hw e =>
    exact .inl ⟨(Host.Outcome.refused.inj (e.symm.trans hr)).symm, lag, hi, hw⟩
  | next t e | batchUnwritten b _ e | seriesUnwritten x y _ _ e | doaUnwritten store _ _ e =>
    exact nomatch e.symm.trans hr

/-- A fault is a read of an element without a value, by an operation that reads one. -/
theorem Answer.fault_cases (h : Answer s i) {r : Fault} (hr : exec i s = .fault r) :
    (r = .noValue .buf ∨ r = .noValue .raw ∨ r = .noValue .ch) ∧
      (i = .tDoa ∨ (∃ b, i = .fromBatch (.buffer b)) ∨ ∃ x y, WorksOnSeries i x y) := by
  cases h with
  | next t e | illFormed e | outsideWindow lag _ _ e => exact nomatch e.symm.trans hr
  | batchUnwritten b hi e =>
    exact ⟨.inl (Host.Outcome.fault.inj (e.symm.trans hr)).symm, .inr (.inl ⟨b, hi⟩)⟩
  | seriesUnwritten x y hi _ e =>
    exact ⟨.inr (.inr (Host.Outcome.fault.inj (e.symm.trans hr)).symm), .inr (.inr ⟨x, y, hi⟩)⟩
  | doaUnwritten store hi hs e =>
    obtain rfl := Host.Outcome.fault.inj (e.symm.trans hr)
    refine ⟨?_, .inl hi⟩
    cases store with
    | buf => exact .inl rfl
    | raw => exact .inr (.inl rfl)
    | ch => exact .inr (.inr rfl)
    | lagTab => exact absurd rfl hs

/-- Ill-formed operands never go on; a channel read before them may fault first. -/
theorem Answer.of_illFormed (h : Answer s i) (hwf : i.wellFormed s.cfg.signalLen = false) :
    exec i s = .refused .illFormed ∨
      ∃ c, exec i s = .fault (.noValue .ch) ∧ ¬ written (s.mem.ch.get c) s.cfg.signalLen := by
  cases h with
  | next t _ hok => exact nomatch hok.symm.trans hwf
  | illFormed e => exact .inl e
  | seriesUnwritten x y _ hu e =>
    obtain ⟨c, hc⟩ : ∃ c, ¬ written (s.mem.ch.get c) s.cfg.signalLen :=
      hu.elim exists_not_written_of_readsUnwritten exists_not_written_of_readsUnwritten
    exact .inr ⟨c, e, hc⟩
  | outsideWindow lag hi | batchUnwritten b hi | doaUnwritten store hi =>
    rw [hi] at hwf
    exact nomatch hwf

end Sys2Proof.Machine

open Sys2Proof Sys2Proof.Machine

/-- Settles O45: the first three clauses read off what an instruction can answer, the last two off
the operands of the operations they name. -/
theorem stopsAreTheNamedOnes : Obligations.StopsAreTheNamedOnes := by
  intro s i h
  have hanswer := h.answer i
  refine ⟨fun r => hanswer.refused_cases, fun r => hanswer.fault_cases, hanswer.of_illFormed,
    fun b => ⟨fun hfault hw => ?_, execFromBatch_buffer_of_not_written⟩, fun x y hx hy hi => ?_⟩
  · obtain ⟨t, e⟩ := execFromBatch_buffer_of_written hw
    exact nomatch e.symm.trans hfault
  · obtain ⟨f, hf⟩ := h.exec_eq_onTwoSeries hi
    rw [hf]
    exact onTwoSeries_eq_fault_iff hx hy f
end

section
/-! The servo angle controller SRV (O14 to O17): the registers hold the exact clamped angles, steps
and pulse widths of the spec, for goals and angles of any value (R196 to R200). -/

-- One after another, like the tests: elaboration in parallel asks for more threads.
set_option Elab.async false

namespace Sys2Proof.Machine

variable {s : State} {c : Config} {a : Axis}

theorem PerAxis.set_get_self {α : Type} (p : PerAxis α) (a : Axis) : p.set a (p.get a) = p := by
  cases a <;> rfl

/-! ### Goals (R196, R199) -/

theorem clamp_of_mem {v lo hi : Int} (hlo : lo ≤ v) (hhi : v ≤ hi) : clamp v lo hi = v := by
  rw [clamp, if_neg (by omega), if_neg (by omega)]

theorem clampAngle_of_inTravel {v : Angle} (h : inTravel c a v) : clampAngle c a v.toInt = v := by
  obtain ⟨hlow, hhigh⟩ := h
  rw [clampAngle, clamp_of_mem hlow hhigh, BitVec.ofInt_toInt]

/-- A bearing of 90 is broadside: its offset is 0 for either sign. -/
theorem offsetGoal_broadside {cur : Angle} (h : inTravel c a cur) :
    offsetGoal c a cur 90 = cur := by
  have hoffset : ((90 : Byte).toNat : Int) - 90 = 0 := rfl
  rw [offsetGoal, hoffset, Int.mul_zero, Int.add_zero, clampAngle_of_inTravel h]

/-! ### Steps (R198) -/

theorem stepAngle_self (v : Angle) : stepAngle v v = v := by
  rw [stepAngle, if_neg (Int.lt_irrefl _), if_neg (Int.lt_irrefl _)]

/-- At the goal the angle stays and the pulse is rewritten with the same value. -/
theorem stepAxis_of_at_goal (hpulse : s.srvPulse.get a = degToPulse s.cfg a (s.srvCur.get a).toInt)
    (hgoal : s.srvCur.get a = s.srvGoal.get a) : stepAxis a s = s := by
  rw [stepAxis, ← hgoal, stepAngle_self, ← hpulse, PerAxis.set_get_self, PerAxis.set_get_self]

/-- A step takes one degree off the distance to the goal, and nothing off the distance 0. -/
theorem natAbs_stepAngle_sub (cur goal : Angle) :
    ((stepAngle cur goal).toInt - goal.toInt).natAbs = (cur.toInt - goal.toInt).natAbs - 1 := by
  rw [toInt_stepAngle]
  split
  · omega
  · split <;> omega

theorem natAbs_stepTimes_sub (a : Axis) (n : Nat) (s : State) :
    (((stepTimes a n s).srvCur.get a).toInt - (s.srvGoal.get a).toInt).natAbs =
      ((s.srvCur.get a).toInt - (s.srvGoal.get a).toInt).natAbs - n := by
  induction n generalizing s with
  | zero => rfl
  | succ n ih =>
    have hrest := ih (stepAxis a s)
    rw [stepAxis_srvGoal, stepAxis_srvCur, PerAxis.get_set_same, natAbs_stepAngle_sub] at hrest
    rw [stepTimes, hrest]
    omega

/-! ### The pulse map (R200) -/

/-- `d` parts of `m` of a nonnegative span, truncated, lie within the span. -/
theorem tdiv_mul_bounds_of_nonneg {d m span : Int} (hm : 0 < m) (hd : 0 ≤ d) (hdm : d ≤ m)
    (hspan : 0 ≤ span) : 0 ≤ tdiv (d * span) m ∧ tdiv (d * span) m ≤ span := by
  refine ⟨Int.tdiv_nonneg (Int.mul_nonneg hd hspan) hm.le, ?_⟩
  calc tdiv (d * span) m
    _ ≤ tdiv (m * span) m := Int.tdiv_le_tdiv hm (Int.mul_le_mul_of_nonneg_right hdm hspan)
    _ = span := Int.mul_tdiv_cancel_left _ hm.ne'

/-- A pulse of the map lies between the two calibrated ones, in either order. -/
theorem tdiv_mul_bounds {d m : Int} (hm : 0 < m) (hd : 0 ≤ d) (hdm : d ≤ m) (span : Int) :
    min 0 span ≤ tdiv (d * span) m ∧ tdiv (d * span) m ≤ max 0 span := by
  rcases Int.le_total 0 span with hspan | hspan
  · have hbounds := tdiv_mul_bounds_of_nonneg hm hd hdm hspan
    omega
  · have hbounds := tdiv_mul_bounds_of_nonneg hm hd hdm (span := -span) (by omega)
    rw [tdiv, Int.mul_neg, Int.neg_tdiv] at hbounds
    rw [tdiv]
    omega

/-- The pulse lies between two 32-bit pulses, so its register holds it exactly. -/
theorem toInt_degToPulse (h : 1 ≤ (c.servoMax.get a).toInt) (degrees : Int) :
    (degToPulse c a degrees).toInt = (c.pulse0.get a).toInt +
      tdiv (clamp degrees 0 (c.servoMax.get a).toInt *
        ((c.pulseMax.get a).toInt - (c.pulse0.get a).toInt)) (c.servoMax.get a).toInt := by
  obtain ⟨hd, hdm⟩ := clamp_bounds degrees 0 (c.servoMax.get a).toInt (by omega)
  have hbounds := tdiv_mul_bounds h hd hdm ((c.pulseMax.get a).toInt - (c.pulse0.get a).toInt)
  have hlow0 := BitVec.le_toInt (c.pulse0.get a)
  have hhigh0 := BitVec.toInt_lt (x := c.pulse0.get a)
  have hlowMax := BitVec.le_toInt (c.pulseMax.get a)
  have hhighMax := BitVec.toInt_lt (x := c.pulseMax.get a)
  rw [degToPulse, BitVec.toInt_ofInt, Int.bmod_eq_of_le] <;> omega

theorem degToPulse_zero (h : 1 ≤ (c.servoMax.get a).toInt) :
    degToPulse c a 0 = c.pulse0.get a := by
  apply BitVec.eq_of_toInt_eq
  rw [toInt_degToPulse h, clamp_of_mem le_rfl (by omega), Int.zero_mul, tdiv, Int.zero_tdiv,
    Int.add_zero]

theorem degToPulse_servoMax (h : 1 ≤ (c.servoMax.get a).toInt) :
    degToPulse c a (c.servoMax.get a).toInt = c.pulseMax.get a := by
  apply BitVec.eq_of_toInt_eq
  rw [toInt_degToPulse h, clamp_of_mem (by omega) le_rfl, tdiv,
    Int.mul_tdiv_cancel_left _ (by omega)]
  omega

end Sys2Proof.Machine

open Sys2Proof Sys2Proof.Machine

/-- Settles O14: the goal recorded is the clamped request, in every state. -/
theorem setGoalClamps : Obligations.SetGoalClamps := by
  intro s a degrees
  refine ⟨writeGoal a degrees s, rfl, rfl, ?_, fun b hb => PerAxis.get_set_other _ _ _ _ hb⟩
  rw [writeGoal_srvGoal, PerAxis.get_set_same, toInt_clampAngle_eq_exactClamp]

/-- Settles O15: the goal recorded is the clamped sum, and broadside adds nothing. -/
theorem addGoalOffsetFromCurrent : Obligations.AddGoalOffsetFromCurrent := by
  intro s a bearing hbearing
  have hgoal : (addOffset a bearing s).srvGoal.get a =
      offsetGoal s.cfg a (s.srvCur.get a) bearing := PerAxis.get_set_same _ _ _
  refine ⟨addOffset a bearing s, (execAddGoalOffset_eq_next ..).mpr ⟨hbearing, rfl⟩, rfl, ?_,
    fun b hb => PerAxis.get_set_other _ _ _ _ hb, fun h90 hcur => ?_⟩
  · rw [hgoal, offsetGoal, toInt_clampAngle_eq_exactClamp]
  · rw [hgoal, h90, offsetGoal_broadside hcur]

/-- Settles O16: one step is `stepAxis`; `n` steps by induction on the distance left. -/
theorem stepMovesOneDegree : Obligations.StepMovesOneDegree := by
  intro s a
  refine ⟨⟨stepAxis a s, rfl, rfl, ?_, ?_, fun b hb => ?_, stepAxis_of_at_goal⟩, fun n =>
    ⟨natAbs_stepTimes_sub a n s, fun hn => BitVec.eq_of_toInt_eq ?_⟩⟩
  · rw [stepAxis_srvCur, PerAxis.get_set_same, toInt_stepAngle]
  · show execDegToPulse a _ s = _
    rw [execDegToPulse, stepAxis_srvPulse, stepAxis_srvCur, PerAxis.get_set_same,
      PerAxis.get_set_same, returning]
  · exact ⟨PerAxis.get_set_other _ _ _ _ hb, PerAxis.get_set_other _ _ _ _ hb⟩
  · have hleft := natAbs_stepTimes_sub a n s
    omega

/-- Settles O17: the register holds the exact value of the map, which meets both points. -/
theorem degToPulseIsAffine : Obligations.DegToPulseIsAffine := by
  intro s a degrees h
  refine ⟨⟨degToPulse s.cfg a degrees, rfl, ?_⟩, ?_, ?_⟩
  · rw [toInt_degToPulse h, tdiv_eq_exactTdiv, clamp_eq_exactClamp]
  · show execDegToPulse a 0 s = _
    rw [execDegToPulse, degToPulse_zero h, returning]
  · show execDegToPulse a _ s = _
    rw [execDegToPulse, degToPulse_servoMax h, returning]
end

section
/-! Queueing and the handlers of levels 1 and 2 (O29 to O32): which case of each body holds under which
condition, and what a whole chunk does to `CMDQ` and `DIAG` (R251 to R253, R259, R260). -/

namespace Sys2Proof.Machine

-- One after another, like the tests: elaboration in parallel asks for more threads.
set_option Elab.async false

variable {s t : State} {i : Instr}

/-! ### Queueing (R259) -/

theorem isSamples_eq_false {m : Message} (h : ∀ batch, m ≠ .samples batch) : isSamples m = false := by
  cases m with
  | samples batch => exact absurd rfl (h batch)
  | sync | panTiltStatus _ _ | command _ => rfl

/-- Only a `Samples` Message can be ill formed (30_encoding R95). -/
theorem wellFormed_of_ne_samples {m : Message} (h : ∀ batch, m ≠ .samples batch) (n : Nat) :
    m.wellFormed n = true := by
  cases m with
  | samples batch => exact absurd rfl (h batch)
  | sync | panTiltStatus _ _ | command _ => rfl

theorem enqueueMessage_samples (batch : List Frame) (s : State) :
    enqueueMessage (.samples batch) s =
      if s.txqS.length < s.cfg.txqSamplesCap then { s with txqS := s.txqS ++ [.samples batch] }
      else { s with gTxDrop := true } := rfl

theorem enqueueMessage_reply {m : Message} (h : isSamples m = false) (s : State) :
    enqueueMessage m s =
      if s.txqR.length < s.cfg.txqReplyCap then { s with txqR := s.txqR ++ [m] }
      else { s with gTxDrop := true } := by
  rw [enqueueMessage, h]
  rfl

theorem execEnqueueTx_of_wellFormed {m : Message} (h : m.wellFormed s.cfg.signalLen = true) :
    execEnqueueTx m s = .next (enqueueMessage m s) := (execEnqueueTx_eq_next ..).mpr ⟨h, rfl⟩

/-! ### `H_RX` (R251) -/

/-- What handling the results `rs`, one after another, makes of a state. -/
def resultsHandled (rs : List FeedResult) (s : State) : State :=
  { s with
    cmdq := s.cmdq ++ (commandsIn rs).take (s.cfg.cmdqCap - s.cmdq.length)
    diag := s.diag ++ codesIn (s.cfg.cmdqCap - s.cmdq.length) rs
    gCmdDrop := if s.cfg.cmdqCap < s.cmdq.length + (commandsIn rs).length then true
      else s.gCmdDrop }

theorem commandsIn_command (c : Command) (rs : List FeedResult) :
    commandsIn (.ready (.command c) :: rs) = c :: commandsIn rs := rfl

theorem resultsHandled_nil (h : s.cmdq.length ≤ s.cfg.cmdqCap) : resultsHandled [] s = s := by
  simp [resultsHandled, commandsIn, codesIn, Nat.not_lt.mpr h]

/-- A `Command` takes one place of `CMDQ` from the results after it. -/
theorem resultsHandled_command_of_room (h : s.cmdq.length < s.cfg.cmdqCap) (c : Command)
    (rs : List FeedResult) : resultsHandled (.ready (.command c) :: rs) s =
      resultsHandled rs { s with cmdq := s.cmdq ++ [c] } := by
  have hroom : s.cfg.cmdqCap - s.cmdq.length = s.cfg.cmdqCap - (s.cmdq.length + 1) + 1 := by omega
  have hcount : s.cmdq.length + ((commandsIn rs).length + 1) =
      s.cmdq.length + 1 + (commandsIn rs).length := by omega
  simp only [resultsHandled, commandsIn_command, hroom, codesIn, List.take_succ_cons, List.length_append,
    List.length_cons, List.length_nil, Nat.zero_add, List.append_assoc, List.singleton_append, hcount]

/-- With `CMDQ` full a `Command` is dropped, and so is every later one. -/
theorem resultsHandled_command_of_full (h : s.cmdq.length = s.cfg.cmdqCap) (c : Command)
    (rs : List FeedResult) : resultsHandled (.ready (.command c) :: rs) s =
      resultsHandled rs { s with gCmdDrop := true, diag := s.diag ++ [6] } := by
  simp [resultsHandled, commandsIn_command, h, codesIn]

/-- An error is logged before the results after it are handled. -/
theorem resultsHandled_logged (code : Nat) (rs : List FeedResult) (s : State) :
    { resultsHandled rs s with
      diag := s.diag ++ code :: codesIn (s.cfg.cmdqCap - s.cmdq.length) rs } =
      resultsHandled rs { s with diag := s.diag ++ [code] } := by
  simp only [resultsHandled, List.append_assoc, List.singleton_append]

theorem resultsHandled_cons (h : s.cmdq.length ≤ s.cfg.cmdqCap) (r : FeedResult)
    (rs : List FeedResult) : resultsHandled (r :: rs) s = resultsHandled rs (handleResult r s) := by
  cases r with
  | needMore => rfl
  | overFull => exact resultsHandled_logged 1 rs s
  | deserError => exact resultsHandled_logged 2 rs s
  | ready m =>
    rcases deliverMessage_cases m s with ⟨c, rfl, hroom, e⟩ | ⟨c, rfl, hfull, e⟩ | ⟨hm, e⟩
    · exact (resultsHandled_command_of_room hroom c rs).trans (congrArg _ e.symm)
    · exact (resultsHandled_command_of_full (h.antisymm hfull) c rs).trans (congrArg _ e.symm)
    · cases m with
      | command c => exact absurd rfl (hm c)
      | sync | panTiltStatus _ _ | samples _ => rfl

theorem handleResult_cmdq_le (h : s.cmdq.length ≤ s.cfg.cmdqCap) (r : FeedResult) :
    (handleResult r s).cmdq.length ≤ (handleResult r s).cfg.cmdqCap := by
  rcases handleResult_cases r s with ⟨m, -, e⟩ | e | ⟨k, e⟩ <;> rw [e]
  · rcases deliverMessage_cases m s with ⟨c, -, hroom, e⟩ | ⟨c, -, -, e⟩ | ⟨-, e⟩ <;> rw [e]
    · simpa using hroom
    · exact h
    · exact h
  · exact h
  · exact h

theorem foldl_handleResult (rs : List FeedResult) (h : s.cmdq.length ≤ s.cfg.cmdqCap) :
    rs.foldl (fun t r => handleResult r t) s = resultsHandled rs s := by
  induction rs generalizing s with
  | nil => exact (resultsHandled_nil h).symm
  | cons r rs ih => rw [List.foldl_cons, ih (handleResult_cmdq_le h r), resultsHandled_cons h]

theorem feedChunk_eq (chunk : List Byte) (h : s.cmdq.length ≤ s.cfg.cmdqCap) :
    feedChunk chunk s = resultsHandled (feedAll s.cfg s.rxAcc chunk).1
      { s with rxAcc := (feedAll s.cfg s.rxAcc chunk).2 } := foldl_handleResult _ h

theorem execHRx_of_chunk {chunk : List Byte} {rest : List (List Byte)}
    (h : s.linkRxq = chunk :: rest) :
    execHRx s = .next (feedChunk chunk { s with linkRxq := rest }) := by
  rw [execHRx, h]

/-! ### `H_TX_COMPLETE` (R252) -/

/-- Sending only ever sets `TX.BUSY`; no instruction but the handler ends a flight (R230). -/
theorem exec_txBusy_kept (h : exec i s = .next t) (hi : i ≠ .hTxComplete) (hb : s.txBusy = true) :
    t.txBusy = true := by
  by_cases hkept : t.txBusy = s.txBusy
  · exact hkept.trans hb
  · obtain ⟨frame, rfl⟩ | rfl | rfl := exec_writers h .txBusy hkept
    · rcases execSend_next h with ⟨v, rfl⟩ | ⟨v, rfl⟩
      · exact hb
      · rfl
    · rcases execTTransmit_next h with rfl | ⟨m, rest, -, rfl⟩ | ⟨m, rest, -, rfl⟩
      · exact hb
      · rfl
      · rfl
    · exact absurd rfl hi

/-- No instruction leads out of the states in which `PEND.TXC` implies `TX.BUSY`. -/
theorem exec_keeps_txcBusy (hs : s.pendTxc = true → s.txBusy = true) (h : exec i s = .next t)
    (ht : t.pendTxc = true) : t.txBusy = true := by
  have hkept : t.pendTxc = s.pendTxc := by
    by_contra hne
    exact nomatch ht.symm.trans (exec_pendTxc_changed h hne).2
  refine exec_txBusy_kept h ?_ (hs (hkept ▸ ht))
  rintro rfl
  obtain rfl := Host.Outcome.next.inj h
  exact nomatch ht

/-! ### `H_CAPTURE_COMPLETE` (R253) -/

theorem handOver_eq (s : State) : handOver s = { s with
    pendBatch := false
    gOverrun := if s.capOut then true else s.gOverrun
    capActive := otherBuffer s.capActive
    capWr := 0
    capRdyV := true
    capOut := true
    capPaused := if s.cfg.pauseForDoa then true else s.capPaused
    doaNewest := s.capActive
    pendDoa := true } := by
  rw [handOver, Bool.or_comm s.gOverrun]
  simp only [Bool.if_true_left, Bool.decide_eq_true]

theorem execHCaptureComplete_of_full (h : s.capWr = s.cfg.signalLen) :
    execHCaptureComplete s = .next (handOver s) := by
  rw [execHCaptureComplete_eq, if_pos h]

theorem execHCaptureComplete_of_not_full (h : s.capWr ≠ s.cfg.signalLen) :
    execHCaptureComplete s = .next { s with pendBatch := false } := by
  rw [execHCaptureComplete_eq, if_neg h]

end Sys2Proof.Machine

open Sys2Proof Sys2Proof.Machine

/-- Settles O30: handling the results of `FEED_ALL` one after another is `resultsHandled`. -/
theorem receiveHandlerFeedsOneChunk : Obligations.ReceiveHandlerFeedsOneChunk := by
  intro s chunk rest hq hcap
  have hfed := feedChunk_eq (s := { s with linkRxq := rest }) chunk hcap
  exact ⟨_, _, (execHRx_of_chunk hq).trans (congrArg _ hfed), rfl, rfl⟩

/-- Settles O31: by the writers of `PEND.TXC` and `TX.BUSY`; the link drains only a frame in flight. -/
theorem transmitCompleteClears : Obligations.TransmitCompleteClears := by
  refine fun s => ⟨rfl, fun hs => ⟨fun t h _ => ?_, fun i t h => exec_keeps_txcBusy hs h⟩⟩
  obtain ⟨hbusy, -, rfl⟩ := (drainLink_eq_next s t).mp h
  exact hbusy

/-- Settles O29: the two cases of each queue; a `Sync` is no `Samples` Message. -/
theorem enqueueDropsWhenFull : Obligations.EnqueueDropsWhenFull := by
  refine fun s => ⟨fun batch hlen => ?_, fun m hm => ?_, rfl, _, rfl⟩
  · have hnext : exec (.enqueueTx (.samples batch)) s = _ :=
      execEnqueueTx_of_wellFormed (beq_iff_eq.mpr hlen)
    rw [hnext, enqueueMessage_samples]
    exact ⟨fun hroom => by rw [if_pos hroom], fun hfull => by rw [if_neg (Nat.not_lt.mpr hfull)]⟩
  · have hnext : exec (.enqueueTx m) s = _ :=
      execEnqueueTx_of_wellFormed (wellFormed_of_ne_samples hm _)
    rw [hnext, enqueueMessage_reply (isSamples_eq_false hm)]
    exact ⟨fun hroom => by rw [if_pos hroom], fun hfull => by rw [if_neg (Nat.not_lt.mpr hfull)]⟩

/-- Settles O32: a complete batch is handed over, and the other buffer is `otherBuffer`. -/
theorem captureCompleteHandsOver : Obligations.CaptureCompleteHandsOver := by
  refine fun s => ⟨fun h => ⟨otherBuffer s.capActive, otherBuffer_ne _, ?_⟩,
    fun h => execHCaptureComplete_of_not_full h⟩
  exact (execHCaptureComplete_of_full h).trans (congrArg _ (handOver_eq s))
end

section
/-! The tasks of levels 4 to 6 (O40, O42 to O44): which element each body takes, and that without one it
does nothing (R261 to R263, log 12). -/

namespace Sys2Proof.Machine

-- One after another, as above.
set_option Elab.async false

variable {s : State}

/-! ### Bodies with an element to take -/

theorem execTCommand_of_command {c : Command} {rest : List Command} (h : s.cmdq = c :: rest) :
    execTCommand s = .next (applyCommand c { s with cmdq := rest }) := by
  rw [execTCommand, h]

theorem execTTransmit_of_reply {m : Message} {rest : List Message} (hb : s.txBusy = false)
    (hr : s.txqR = m :: rest) :
    execTTransmit s = .next (startTransmit (frameOf m) { s with txqR := rest }) := by
  rw [execTTransmit, hb, hr]
  rfl

theorem execTTransmit_of_samples {m : Message} {rest : List Message} (hb : s.txBusy = false)
    (hr : s.txqR = []) (hs : s.txqS = m :: rest) :
    execTTransmit s = .next (startTransmit (frameOf m) { s with txqS := rest }) := by
  rw [execTTransmit, hb, hr, hs]
  rfl

/-- With a frame in flight `PEND.TX` is false, whatever is queued (10_state R44). -/
theorem pendTx_startTransmit (frame : List Byte) (s : State) :
    pendTx (startTransmit frame s) = false := by
  rw [pendTx, startTransmit_txBusy]
  exact Bool.and_false _

/-! ### Bodies with nothing to take (log 12) -/

theorem execHRx_of_none (h : s.linkRxq = []) : execHRx s = .next s := by
  rw [execHRx, h]

theorem execTCommand_of_none (h : s.cmdq = []) : execTCommand s = .next s := by
  rw [execTCommand, h]

theorem execTTransmit_of_busy (h : s.txBusy = true) : execTTransmit s = .next s := by
  rw [execTTransmit, if_pos h]

theorem execTTransmit_of_none (hr : s.txqR = []) (hs : s.txqS = []) :
    execTTransmit s = .next s := by
  rw [execTTransmit, hr, hs]
  exact ite_self _

end Sys2Proof.Machine

open Sys2Proof Sys2Proof.Machine

/-- Settles O40: the effect of a taken `Command` is `CommandApplied`. -/
theorem commandTaskApplies : Obligations.CommandTaskApplies :=
  fun _ c _ hq => ⟨_, execTCommand_of_command hq, commandApplied_applyCommand c _⟩

/-- Settles O42: the body is the two `STEP`s by definition, and pending twice is pending once. -/
theorem servoTickStepsBothAxes : Obligations.ServoTickStepsBothAxes :=
  fun s => ⟨stepAxis .pan { s with pendStick := false },
    stepAxis .tilt (stepAxis .pan { s with pendStick := false }), rfl, rfl, rfl, rfl⟩

/-- Settles O43: the Message sent is framed by `frameOf`, and its flight keeps `PEND.TX` false. -/
theorem transmitTaskSendsReplyFirst : Obligations.TransmitTaskSendsReplyFirst :=
  fun _ _ _ hb =>
    ⟨fun hr => ⟨_, execTTransmit_of_reply hb hr, rfl, pendTx_startTransmit _ _⟩,
      fun hr hs => ⟨_, execTTransmit_of_samples hb hr hs, rfl, pendTx_startTransmit _ _⟩⟩

/-- Settles O44: each body's case for an empty queue, and for a frame in flight. -/
theorem nothingToTakeChangesNothing : Obligations.NothingToTakeChangesNothing := by
  refine fun s => ⟨execHRx_of_none, execTCommand_of_none, fun h => ?_⟩
  rcases h with hbusy | ⟨hr, hs⟩
  · exact execTTransmit_of_busy hbusy
  · exact execTTransmit_of_none hr hs
end

section
/-! The steps of the DoA task (O34 to O37): what `T_DOA` does in each phase when the element it reads has
its value (R254 to R257). -/

namespace Sys2Proof.Machine

-- One after another, as above.
set_option Elab.async false

variable {s t : State}

/-! ### The step of each phase -/

theorem execTDoa_of_idle (h : s.doaPhase = .idle) : execTDoa s = .next (doaStart s) := by
  rw [execTDoa, h]

theorem execTDoa_of_copyTx (h : s.doaPhase = .copyTx) : execTDoa s = doaCopy s := by
  rw [execTDoa, h]

theorem execTDoa_of_demux (h : s.doaPhase = .demux) : execTDoa s = doaDemux s := by
  rw [execTDoa, h]

theorem execTDoa_of_compute (h : s.doaPhase = .compute) : execTDoa s = doaCompute s := by
  rw [execTDoa, h]

/-! ### The request while the task runs (R254) -/

theorem channelEnded_pendDoa (s : State) : (channelEnded s).pendDoa = s.pendDoa := by
  unfold channelEnded
  split <;> rfl

theorem doaCopy_pendDoa (h : doaCopy s = .next t) : t.pendDoa = s.pendDoa := by
  obtain ⟨f, -, rfl | ⟨batch, -, rfl⟩⟩ := doaCopy_next h
  · rfl
  · exact enqueueMessage_pendDoa _ _

theorem doaDemux_pendDoa (h : doaDemux s = .next t) : t.pendDoa = s.pendDoa := by
  obtain ⟨v, -, rfl | ⟨xs, -, rfl⟩⟩ := doaDemux_next h
  · rfl
  · exact channelEnded_pendDoa _

theorem doaCompute_pendDoa (h : doaCompute s = .next t) : t.pendDoa = s.pendDoa := by
  obtain ⟨u, v, hpan, htilt, rfl⟩ := doaCompute_next h
  obtain ⟨_, _, _, _, -, rfl⟩ := doaAxis_next hpan
  obtain ⟨_, _, _, _, -, rfl⟩ := doaAxis_next htilt
  rfl

/-- Only the start step reads the request. -/
theorem execTDoa_pendDoa (hp : s.doaPhase ≠ .idle) (h : execTDoa s = .next t) :
    t.pendDoa = s.pendDoa := by
  cases hphase : s.doaPhase with
  | idle => exact absurd hphase hp
  | copyTx => exact doaCopy_pendDoa (execTDoa_of_copyTx hphase ▸ h)
  | demux => exact doaDemux_pendDoa (execTDoa_of_demux hphase ▸ h)
  | compute => exact doaCompute_pendDoa (execTDoa_of_compute hphase ▸ h)

/-! ### The `CopyTx` phase (R255) -/

theorem keepsBuf_of_buf_eq (h : ∀ b, t.mem.buf b = s.mem.buf b) : keepsBuf s t :=
  fun b i => congrArg (Store.read · i) (h b)

/-- Writing the last element completes a read of the whole store. -/
theorem Store.readAll_write_last {α : Type} {st : Store α} {i n : Nat} {v : α} {vs : List α}
    (hi : i + 1 = n) (hl : vs.length = n) (hv : vs[i]? = some v)
    (hr : ∀ k, k < i → Store.read st k = vs[k]?) :
    Store.readAll (Store.write st i v) n = some vs := by
  refine (Store.readAll_eq_some ..).mpr ⟨hl, fun k hk => ?_⟩
  rcases Nat.lt_or_eq_of_le (Nat.le_of_lt_succ (hi ▸ hk)) with hlt | rfl
  · rw [Store.read_write_other _ _ _ (Nat.ne_of_lt hlt), hr k hlt]
  · rw [Store.read_write_same, hv]

theorem doaQueueRaw_of_readAll {batch : List Frame}
    (h : Store.readAll s.mem.raw s.cfg.signalLen = some batch) :
    doaQueueRaw s = .next (rawQueued batch s) := by
  rw [doaQueueRaw, h]
  rfl

theorem rawQueued_eq_with (batch : List Frame) (s : State) : rawQueued batch s = { s with
    txqS := if s.txqS.length < s.cfg.txqSamplesCap then s.txqS ++ [.samples batch] else s.txqS
    gTxDrop := if s.txqS.length < s.cfg.txqSamplesCap then s.gTxDrop else true
    doaI := 0
    doaPhase := .demux } := by
  rw [rawQueued, enqueueMessage_samples]
  by_cases hroom : s.txqS.length < s.cfg.txqSamplesCap
  · simp only [if_pos hroom]
  · simp only [if_neg hroom]

theorem frameCopied_read_raw (f : Frame) (s : State) (i : Nat) :
    Store.read (frameCopied f s).mem.raw i =
      if i = s.doaI then some f else Store.read s.mem.raw i := Store.read_write ..

theorem keepsBuf_frameCopied (f : Frame) (s : State) : keepsBuf s (frameCopied f s) :=
  keepsBuf_of_buf_eq (Memory.buf_writeRaw _ _ _)

/-! ### The `Demux` phase (R256) -/

theorem Channels.set_set (ch : Channels) (c : Fin 4) (st st' : Store Sample) :
    (ch.set c st).set c st' = ch.set c st' := by
  match c with
  | 0 => rfl
  | 1 => rfl
  | 2 => rfl
  | 3 => rfl

theorem Memory.setCh_writeCh (m : Memory) (c : Fin 4) (i : Nat) (v : Sample) (xs : List Sample) :
    (m.writeCh c i v).setCh c xs = m.setCh c xs := by
  rw [Memory.setCh, Memory.writeCh, Channels.set_set, Memory.setCh]

theorem Memory.read_ch_setCh (m : Memory) (c d : Fin 4) (xs : List Sample) (i : Nat) :
    Store.read ((m.setCh c xs).ch.get d) i =
      if d = c then xs[i]? else Store.read (m.ch.get d) i := by
  rw [Memory.ch_setCh, Channels.get_set]
  split
  · exact Store.read_ofList xs i
  · rfl

theorem doaEndChannel_of_readAll {xs : List Sample}
    (h : Store.readAll (s.mem.ch.get s.doaC) s.cfg.signalLen = some xs) :
    doaEndChannel s = .next (channelEnded (meanRemoved xs s)) := by
  have hform : doaEndChannel s =
      if s.doaC = 3 then .next { releaseReference (meanRemoved xs s) with doaPhase := .compute }
      else .next { meanRemoved xs s with doaC := s.doaC + 1 } := by
    rw [doaEndChannel, h]
    rfl
  exact hform.trans (apply_ite Host.Outcome.next ..).symm

/-- A channel ended with its whole series `xs` and its sum. -/
def channelDone (xs : List Sample) (sum : Acc) (s : State) : State :=
  { s with
    mem := s.mem.setCh s.doaC (xs.map (removeMean (dcMean s.cfg.signalLen sum)))
    dmxSum := 0
    doaI := 0
    doaC := if s.doaC = 3 then 3 else s.doaC + 1
    capOut := if s.doaC = 3 then false else s.capOut
    doaPhase := if s.doaC = 3 then .compute else s.doaPhase }

theorem channelEnded_eq_with (s : State) : channelEnded s = { s with
    doaC := if s.doaC = 3 then 3 else s.doaC + 1
    capOut := if s.doaC = 3 then false else s.capOut
    doaPhase := if s.doaC = 3 then .compute else s.doaPhase } := by
  unfold channelEnded
  by_cases hc : s.doaC = 3
  · simp only [if_pos hc, releaseReference]
    rw [← hc]
  · simp only [if_neg hc]

/-- The last sample stored is overwritten with the rest of its channel. -/
theorem channelEnded_sampleTaken (xs : List Sample) (v : Sample) (s : State) :
    channelEnded (meanRemoved xs (sampleTaken v s)) =
      channelDone xs (s.dmxSum + v.signExtend 64) s := by
  rw [channelEnded_eq_with, channelDone, ← Memory.setCh_writeCh s.mem s.doaC s.doaI v]
  rfl

theorem doaDemux_of_inner {v : Sample}
    (hv : s.mem.readSample s.doaSrc s.doaI s.doaC = some v) (hi : s.doaI + 1 ≠ s.cfg.signalLen) :
    doaDemux s = .next (sampleTaken v s) := by
  rw [doaDemux_of_readSample hv, if_neg hi]

theorem doaDemux_of_last {v : Sample} {xs : List Sample}
    (hv : s.mem.readSample s.doaSrc s.doaI s.doaC = some v) (hi : s.doaI + 1 = s.cfg.signalLen)
    (hl : xs.length = s.cfg.signalLen) (hlast : xs[s.doaI]? = some v)
    (hr : ∀ k, k < s.doaI → Store.read (s.mem.ch.get s.doaC) k = xs[k]?) :
    doaDemux s = .next (channelDone xs (s.dmxSum + v.signExtend 64) s) := by
  have hch : (sampleTaken v s).mem.ch.get s.doaC = Store.write (s.mem.ch.get s.doaC) s.doaI v := by
    rw [sampleTaken, Memory.ch_writeCh, Channels.get_set, if_pos rfl]
  have hall : Store.readAll ((sampleTaken v s).mem.ch.get s.doaC) s.cfg.signalLen = some xs := by
    rw [hch]
    exact Store.readAll_write_last hi hl hlast hr
  rw [doaDemux_of_readSample hv, if_pos hi, doaEndChannel_of_readAll (s := sampleTaken v s) hall,
    channelEnded_sampleTaken]

theorem sampleTaken_read_ch (v : Sample) (s : State) (c : Fin 4) (i : Nat) :
    Store.read ((sampleTaken v s).mem.ch.get c) i =
      if c = s.doaC ∧ i = s.doaI then some v else Store.read (s.mem.ch.get c) i := by
  rw [sampleTaken, Memory.ch_writeCh, Channels.get_set]
  by_cases hc : c = s.doaC
  · simp [hc, Store.read_write]
  · simp [hc]

theorem keepsBuf_sampleTaken (v : Sample) (s : State) : keepsBuf s (sampleTaken v s) :=
  keepsBuf_of_buf_eq (Memory.buf_writeCh _ _ _ _)

theorem keepsBuf_channelDone (xs : List Sample) (sum : Acc) (s : State) :
    keepsBuf s (channelDone xs sum s) := keepsBuf_of_buf_eq (Memory.buf_setCh _ _ _)

/-- A sample of the ended channel, in exact integer arithmetic. -/
theorem channelDone_read_of_sample {xs : List Sample} {i : Nat} {x : Sample} (hx : xs[i]? = some x)
    (sum : Acc) (s : State) :
    ∃ w, Store.read ((channelDone xs sum s).mem.ch.get s.doaC) i = some w ∧
      w.toInt = exactSat16 (x.toInt - exactTdiv sum.toInt s.cfg.signalLen) := by
  refine ⟨removeMean (dcMean s.cfg.signalLen sum) x, ?_, ?_⟩
  · rw [channelDone, Memory.read_ch_setCh, if_pos rfl, List.getElem?_map, hx, Option.map_some]
  · rw [removeMean, toInt_sat16, dcMean, tdiv_eq_exactTdiv]

theorem channelDone_read_of_le {xs : List Sample} {i : Nat} (hi : xs.length ≤ i) (sum : Acc)
    (s : State) : Store.read ((channelDone xs sum s).mem.ch.get s.doaC) i = none := by
  rw [channelDone, Memory.read_ch_setCh, if_pos rfl, List.getElem?_eq_none_iff, List.length_map]
  exact hi

theorem channelDone_read_other (xs : List Sample) (sum : Acc) (s : State) {c : Fin 4}
    (hc : c ≠ s.doaC) (i : Nat) :
    Store.read ((channelDone xs sum s).mem.ch.get c) i = Store.read (s.mem.ch.get c) i := by
  rw [channelDone, Memory.read_ch_setCh, if_neg hc]

/-! ### The `Compute` phase (R257) -/

/-- What the `Compute` step of an axis works on: the series of its channel pair, and the bearing the
table holds for their folded lag. -/
structure AxisReads (s : State) (a : Axis) (xs ys : List Sample) (d : Byte) : Prop where
  first : seriesValue s (.channel (s.cfg.pair a).1) = some xs
  second : seriesValue s (.channel (s.cfg.pair a).2) = some ys
  bearing_le : d.toNat ≤ 180
  lookup : ∀ k : Byte → StepOutcome,
    withAngle s (reducedLag s.cfg (peakLag s.cfg xs ys)) k = k d

theorem exists_axisReads (hc : configValid s.cfg = true) (ht : s.lagTab = genLagTable s.cfg)
    (hw : ∀ c, written (s.mem.ch.get c) s.cfg.signalLen) (a : Axis) :
    ∃ xs ys d, AxisReads s a xs ys d := by
  obtain ⟨xs, hx⟩ := (Store.readAll_isSome ..).mpr (hw (s.cfg.pair a).1)
  obtain ⟨ys, hy⟩ := (Store.readAll_isSome ..).mpr (hw (s.cfg.pair a).2)
  obtain ⟨-, hk, -⟩ := configValid_geometry hc
  obtain ⟨d, hd, hlookup⟩ :=
    withAngle_of_table hc ht (foldLag_inLagWindow hk (peakLag s.cfg xs ys))
  exact ⟨xs, ys, d, hx, hy, hd, hlookup⟩

variable {a : Axis} {xs ys : List Sample} {d : Byte}

theorem AxisReads.doaAxis (h : AxisReads s a xs ys d) :
    doaAxis a s = .next (axisComputed a xs ys d s) := by
  rw [Machine.doaAxis, withSeries_of_value h.first, withSeries_of_value h.second]
  exact h.lookup _

/-- The computation of one axis writes nothing the other one reads. -/
theorem AxisReads.axisComputed (h : AxisReads s a xs ys d) (b : Axis) (xs' ys' : List Sample)
    (d' : Byte) : AxisReads (axisComputed b xs' ys' d' s) a xs ys d :=
  ⟨h.first, h.second, h.bearing_le, h.lookup⟩

theorem axisComputed_eq_with (a : Axis) (xs ys : List Sample) (d : Byte) (s : State) :
    axisComputed a xs ys d s = { s with
      mem := s.mem.setCorr (xcorr s.cfg.xcorrLen xs ys)
      doaLag := s.doaLag.set a (BitVec.ofInt 32 (peakLag s.cfg xs ys))
      doaBearing := s.doaBearing.set a d
      srvGoal := s.srvGoal.set a (offsetGoal s.cfg a (s.srvCur.get a) d) } := rfl

/-- The results of pan and tilt, of which tilt leaves its correlation in `CORR`, and the end of the
task. -/
def bothComputed (xs ys : List Sample) (d : Byte) (xs' ys' : List Sample) (d' : Byte) (s : State) :
    State :=
  { s with
    mem := s.mem.setCorr (xcorr s.cfg.xcorrLen xs' ys')
    doaLag := ⟨BitVec.ofInt 32 (peakLag s.cfg xs ys), BitVec.ofInt 32 (peakLag s.cfg xs' ys')⟩
    doaBearing := ⟨d, d'⟩
    srvGoal := ⟨offsetGoal s.cfg .pan s.srvCur.pan d, offsetGoal s.cfg .tilt s.srvCur.tilt d'⟩
    capPaused := false
    doaPhase := .idle }

theorem doaCompute_of_axisReads {xs' ys' : List Sample} {d' : Byte} (hpan : AxisReads s .pan xs ys d)
    (htilt : AxisReads s .tilt xs' ys' d') :
    doaCompute s = .next (bothComputed xs ys d xs' ys' d' s) := by
  rw [doaCompute, hpan.doaAxis, thenDo, (htilt.axisComputed .pan xs ys d).doaAxis, thenDo,
    axisComputed_eq_with, axisComputed_eq_with]
  rfl

/-- A lag of a valid configuration fits the 32 bits of `DOA.LAG`. -/
theorem toInt_ofInt_peakLag (hc : configValid s.cfg = true) (hx : xs.length = s.cfg.signalLen) :
    (BitVec.ofInt 32 (peakLag s.cfg xs ys)).toInt = peakLag s.cfg xs ys := by
  obtain ⟨hlen, hpos⟩ := configValid_lengths hc
  have hcorr : s.cfg.xcorrLen ≤ 2 * s.cfg.signalLen - 1 := by
    simp only [configValid, Bool.and_eq_true, decide_eq_true_eq] at hc
    omega
  have hpeak := (peakIndex_xcorr_isFirstPeak (ys := ys) hpos (hx ▸ hlen)).lt_len
  rw [BitVec.toInt_ofInt, peakLag, lagOf, Int.bmod_eq_of_le] <;> omega

/-- The results of an axis are those of the operations on its channel pair. -/
theorem AxisReads.results (h : AxisReads s a xs ys d) (hc : configValid s.cfg = true)
    (hlag : t.doaLag.get a = BitVec.ofInt 32 (peakLag s.cfg xs ys))
    (hbearing : t.doaBearing.get a = d)
    (hgoal : t.srvGoal.get a = offsetGoal s.cfg a (s.srvCur.get a) d) :
    ∃ u w z,
      exec (.calcLag (.channel (s.cfg.pair a).1) (.channel (s.cfg.pair a).2)) s = .next u ∧
      u.ret = .lag (t.doaLag.get a).toInt ∧
      exec (.calcAngle (.channel (s.cfg.pair a).1) (.channel (s.cfg.pair a).2)) s = .next w ∧
      w.ret = .degree (t.doaBearing.get a) ∧
      exec (.addGoalOffset a (t.doaBearing.get a)) s = .next z ∧
      t.srvGoal.get a = z.srvGoal.get a := by
  subst hbearing
  refine ⟨_, _, _, execCalcLag_of_values h.first h.second, ?_,
    (execCalcAngle_of_values h.first h.second).trans (h.lookup _), rfl,
    (execAddGoalOffset_eq_next ..).mpr ⟨h.bearing_le, rfl⟩, ?_⟩
  · rw [hlag, toInt_ofInt_peakLag hc (seriesValue_length h.first), returning_ret]
  · rw [hgoal, addOffset_srvGoal, PerAxis.get_set_same]

end Sys2Proof.Machine

open Sys2Proof Sys2Proof.Machine

/-- Settles O34: the start step is `doaStart`; the steps of the other phases do not touch the
request. -/
theorem doaStartStep : Obligations.DoaStartStep :=
  fun _ => ⟨execTDoa_of_idle, fun hp _ h => execTDoa_pendDoa hp h⟩

/-- Settles O35: the last frame completes the read of RAW, which is queued as a Message. -/
theorem doaCopyStep : Obligations.DoaCopyStep := by
  intro s f hp hf
  have hcopy : exec .tDoa s = _ := (execTDoa_of_copyTx hp).trans (doaCopy_of_readFrame hf)
  refine ⟨fun hi => ⟨frameCopied f s, hcopy.trans (if_neg hi), rfl, frameCopied_read_raw f s,
    keepsBuf_frameCopied f s, fun _ _ => rfl, fun _ => rfl⟩, fun hi batch hl hlast hr => ?_⟩
  have hall : Store.readAll (frameCopied f s).mem.raw s.cfg.signalLen = some batch :=
    Store.readAll_write_last hi hl hlast hr
  have hqueue := (doaQueueRaw_of_readAll (s := frameCopied f s) hall).trans
    (congrArg _ (rawQueued_eq_with batch _))
  exact ⟨_, (hcopy.trans (if_pos hi)).trans hqueue, rfl, frameCopied_read_raw f s,
    keepsBuf_frameCopied f s, fun _ _ => rfl, fun _ => rfl⟩

/-- Settles O36: the last sample completes the read of its channel, which `channelDone` ends. -/
theorem doaDemuxStep : Obligations.DoaDemuxStep := by
  intro s v hp hv
  refine ⟨fun hi => ⟨sampleTaken v s, (execTDoa_of_demux hp).trans (doaDemux_of_inner hv hi), rfl,
    sampleTaken_read_ch v s, keepsBuf_sampleTaken v s, fun _ => rfl, fun _ => rfl⟩,
    fun hi xs hl hlast hr => ⟨channelDone xs (s.dmxSum + v.signExtend 64) s,
      (execTDoa_of_demux hp).trans (doaDemux_of_last hv hi hl hlast hr), ?_,
      fun i x hx => channelDone_read_of_sample hx _ s,
      fun i hi => channelDone_read_of_le (hl.le.trans hi) _ s,
      fun c i hc => channelDone_read_other xs _ s hc i,
      keepsBuf_channelDone xs _ s, fun _ => rfl, fun _ => rfl⟩⟩
  rw [channelDone, hp]

/-- Settles O37: tilt is computed after pan, on the same channels, table and current angles. -/
theorem doaComputeStep : Obligations.DoaComputeStep := by
  intro s hp hc ht hw
  obtain ⟨xs, ys, d, hpan⟩ := exists_axisReads hc ht hw .pan
  obtain ⟨xs', ys', d', htilt⟩ := exists_axisReads hc ht hw .tilt
  refine ⟨_, (execTDoa_of_compute hp).trans (doaCompute_of_axisReads hpan htilt), rfl, fun a => ?_,
    ⟨_, execXcorrReal_of_values htilt.first htilt.second, fun _ => rfl⟩,
    keepsBuf_of_buf_eq (Memory.buf_setCorr _ _), fun _ => rfl, fun _ _ => rfl⟩
  cases a with
  | pan => exact hpan.results hc rfl rfl rfl
  | tilt => exact htilt.results hc rfl rfl rfl
end

section
/-! The runs of the DoA task with nothing in between (O38, O39): the steps of a phase, by induction on
the elements left, and the phases one after another (R254 to R258). -/

namespace Sys2Proof.Machine

-- One after another, as above.
set_option Elab.async false

variable {s t u : State} {j k : Nat} {batch : List Frame}

/-! ### Runs -/

/-- Out of reset, with no turn scheduled and no level 1 or 2 event pending. -/
structure Undisturbed (s : State) : Prop where
  inReset : s.inReset = false
  sched : s.sched = []
  pendBatch : s.pendBatch = false
  pendTxc : s.pendTxc = false
  linkRxq : s.linkRxq = []

/-- Level 3 is then the level that runs (60_exceptions R282). -/
theorem Undisturbed.step_eq (h : Undisturbed s) (hrun : s.pendDoa = true ∨ s.doaPhase ≠ .idle) :
    step s = execTDoa s := by
  have hunscheduled : step s = processorStep true s := by
    simp [step, unscheduledStep, level2Tie, h.inReset, h.sched, h.pendTxc]
  have hl3 : (s.pendDoa || s.doaPhase != .idle) = true := by simpa [bne_iff_ne] using hrun
  rw [hunscheduled]
  simp [processorStep, topLevel, runnable, pendRx, h.pendBatch, h.pendTxc, h.linkRxq, hl3]

/-- `k` steps from `s` to `t`, after each of which the task is under way and the goals are those of
`s`. -/
inductive DoaRun : Nat → State → State → Prop
  | refl (s : State) : DoaRun 0 s s
  | head {k : Nat} {s u t : State} (hn : step s = .next u) (hp : u.doaPhase ≠ .idle)
      (hg : u.srvGoal = s.srvGoal) (hr : DoaRun k u t) : DoaRun (k + 1) s t

theorem DoaRun.single (hn : step s = .next t) (hp : t.doaPhase ≠ .idle)
    (hg : t.srvGoal = s.srvGoal) : DoaRun 1 s t := .head hn hp hg (.refl t)

theorem DoaRun.trans (h1 : DoaRun j s u) (h2 : DoaRun k u t) : DoaRun (k + j) s t := by
  induction h1 with
  | refl => exact h2
  | head hn hp hg _ ih => exact .head hn hp hg (ih h2)

theorem stepMany_succ_of_step (hn : step s = .next u) (k : Nat) :
    stepMany (k + 1) s = stepMany k u := by
  rw [stepMany, hn, thenDo]

theorem DoaRun.stepMany_eq (h : DoaRun k s t) : stepMany k s = .next t := by
  induction h with
  | refl => rfl
  | head hn _ _ _ ih => rw [stepMany_succ_of_step hn, ih]

/-- One more step, whatever it does. -/
theorem DoaRun.stepMany_succ (h : DoaRun k s u) (hn : step u = .next t) :
    stepMany (k + 1) s = .next t := by
  induction h with
  | refl => rw [stepMany_succ_of_step hn, stepMany]
  | head hn' _ _ _ ih => rw [stepMany_succ_of_step hn', ih hn]

theorem DoaRun.exists_at (h : DoaRun k s t) (hj : 1 ≤ j) (hjk : j ≤ k) :
    ∃ u, stepMany j s = .next u ∧ u.doaPhase ≠ .idle ∧ u.srvGoal = s.srvGoal := by
  induction h generalizing j with
  | refl => omega
  | @head k s v t hn hp hg _ ih =>
    obtain ⟨j, rfl⟩ : ∃ i, j = i + 1 := ⟨j - 1, by omega⟩
    rw [stepMany_succ_of_step hn]
    cases j with
    | zero => exact ⟨v, rfl, hp, hg⟩
    | succ j =>
      obtain ⟨w, hw, hpw, hgw⟩ := ih (Nat.succ_pos j) (by omega)
      exact ⟨w, hw, hpw, hgw.trans hg⟩

/-! ### The batch a run reads -/

/-- An undisturbed run reads the frames of `batch`. -/
structure ReadsBatch (batch : List Frame) (s : State) : Prop extends Undisturbed s where
  length_eq : batch.length = s.cfg.signalLen
  frames : ∀ i, i < s.cfg.signalLen → s.mem.readFrame s.doaSrc i = batch[i]?

theorem Undisturbed.readsBatch (h : Undisturbed s)
    (hb : Store.readAll (s.mem.buf s.doaSrc) s.cfg.signalLen = some batch) : ReadsBatch batch s := by
  obtain ⟨hl, hr⟩ := (Store.readAll_eq_some ..).mp hb
  exact { h with length_eq := hl, frames := hr }

theorem ReadsBatch.exists_frame (h : ReadsBatch batch s) {i : Nat} (hi : i < s.cfg.signalLen) :
    ∃ f, batch[i]? = some f ∧ s.mem.readFrame s.doaSrc i = some f := by
  have hf := List.getElem?_eq_getElem (h.length_eq ▸ hi)
  exact ⟨_, hf, (h.frames i hi).trans hf⟩

theorem ReadsBatch.frameCopied (h : ReadsBatch batch s) (f : Frame) :
    ReadsBatch batch (frameCopied f s) :=
  { h with frames := fun i hi => (keepsBuf_frameCopied f s s.doaSrc i).trans (h.frames i hi) }

theorem ReadsBatch.sampleTaken (h : ReadsBatch batch s) (v : Sample) :
    ReadsBatch batch (sampleTaken v s) :=
  { h with frames := fun i hi => (keepsBuf_sampleTaken v s s.doaSrc i).trans (h.frames i hi) }

/-! ### The `CopyTx` phase (R255) -/

/-- The start of the `Demux` phase, with what `CopyTx` leaves in RAW, `TXQ.S` and `G.TXDROP`. -/
def demuxBegun (raw : Store Frame) (queue : List Message) (drop : Bool) (s : State) : State :=
  { s with
    mem := { s.mem with raw := raw }
    txqS := queue
    gTxDrop := drop
    doaI := 0
    doaPhase := .demux }

theorem Memory.buf_with_raw (m : Memory) (raw : Store Frame) (b : Fin 2) :
    ({ m with raw := raw } : Memory).buf b = m.buf b := by
  match b with
  | 0 => rfl
  | 1 => rfl

theorem ReadsBatch.demuxBegun (h : ReadsBatch batch s) (raw : Store Frame) (queue : List Message)
    (drop : Bool) : ReadsBatch batch (Machine.demuxBegun raw queue drop s) :=
  { h with frames := fun i hi =>
      (keepsBuf_of_buf_eq (Memory.buf_with_raw s.mem raw) _ _).trans (h.frames i hi) }

/-- The frames left are copied one per step. -/
theorem ReadsBatch.copyRun (h : ReadsBatch batch s) (hp : s.doaPhase = .copyTx)
    (hk : s.doaI + (k + 1) = s.cfg.signalLen) (hw : written s.mem.raw s.doaI) :
    ∃ raw queue drop, DoaRun (k + 1) s (Machine.demuxBegun raw queue drop s) := by
  have hrun : s.doaPhase ≠ .idle := by rw [hp]; exact nofun
  induction k generalizing s with
  | zero =>
    obtain ⟨f, -, hf⟩ := h.exists_frame (i := s.doaI) (by omega)
    have hall : written (Machine.frameCopied f s).mem.raw s.cfg.signalLen :=
      hk ▸ written_write_next hw f
    obtain ⟨frames, -, hqueue⟩ := doaQueueRaw_of_written (s := Machine.frameCopied f s) hall
    have hn : step s = .next (rawQueued frames (Machine.frameCopied f s)) := by
      rw [h.step_eq (.inr hrun), execTDoa_of_copyTx hp, doaCopy_of_readFrame hf, if_pos hk, hqueue]
    rw [rawQueued_eq_with] at hn
    exact ⟨_, _, _, .single hn nofun rfl⟩
  | succ k ih =>
    obtain ⟨f, -, hf⟩ := h.exists_frame (i := s.doaI) (by omega)
    have hn : step s = .next (Machine.frameCopied f s) := by
      rw [h.step_eq (.inr hrun), execTDoa_of_copyTx hp, doaCopy_of_readFrame hf, if_neg (by omega)]
    have hleft : s.doaI + 1 + (k + 1) = s.cfg.signalLen := by omega
    obtain ⟨raw, queue, drop, hrest⟩ :=
      ih (h.frameCopied f) hp hleft (written_write_next hw f) hrun
    exact ⟨raw, queue, drop, .head hn hrun rfl hrest⟩

/-! ### The `Demux` phase (R256) -/

theorem channelSum_take_succ {xs : List Sample} {i : Nat} {v : Sample} (hv : xs[i]? = some v) :
    channelSum (xs.take (i + 1)) = channelSum (xs.take i) + v.signExtend 64 := by
  rw [List.take_add_one, hv, channelSum, List.foldl_append, channelSum]
  rfl

/-- A sample taken before the end of its channel is overwritten at the end. -/
theorem channelDone_sampleTaken (xs : List Sample) (sum : Acc) (v : Sample) (s : State) :
    channelDone xs sum (sampleTaken v s) = channelDone xs sum s := by
  rw [channelDone, channelDone, ← Memory.setCh_writeCh s.mem s.doaC s.doaI v]
  rfl

theorem channelDone_doaPhase_ne_idle (hp : s.doaPhase = .demux) (xs : List Sample) (sum : Acc) :
    (channelDone xs sum s).doaPhase ≠ .idle := by
  rw [channelDone, hp]
  split <;> exact nofun

/-- The samples of a channel, all of them. -/
def channelSamples (batch : List Frame) (c : Fin 4) : List Sample := batch.map (·.get c)

theorem channelSamples_length (batch : List Frame) (c : Fin 4) :
    (channelSamples batch c).length = batch.length := List.length_map ..

/-- The channel under way ended: its whole series with its whole sum. -/
def channelDemuxed (batch : List Frame) (s : State) : State :=
  channelDone (channelSamples batch s.doaC) (channelSum (channelSamples batch s.doaC)) s

/-- A channel is under way: its samples before `DOA.I` stand in `CH` and in the sum. -/
structure InChannel (batch : List Frame) (s : State) : Prop extends ReadsBatch batch s where
  demux : s.doaPhase = .demux
  stored : ∀ i, i < s.doaI →
    Store.read (s.mem.ch.get s.doaC) i = (channelSamples batch s.doaC)[i]?
  summed : s.dmxSum = channelSum ((channelSamples batch s.doaC).take s.doaI)

theorem InChannel.ne_idle (h : InChannel batch s) : s.doaPhase ≠ .idle := by
  rw [h.demux]
  exact nofun

theorem InChannel.step_eq (h : InChannel batch s) : step s = doaDemux s :=
  (h.toUndisturbed.step_eq (.inr h.ne_idle)).trans (execTDoa_of_demux h.demux)

theorem InChannel.exists_sample (h : InChannel batch s) (hi : s.doaI < s.cfg.signalLen) :
    ∃ v, (channelSamples batch s.doaC)[s.doaI]? = some v ∧
      s.mem.readSample s.doaSrc s.doaI s.doaC = some v := by
  obtain ⟨f, hbatch, hf⟩ := h.exists_frame hi
  refine ⟨f.get s.doaC, ?_, ?_⟩
  · rw [channelSamples, List.getElem?_map, hbatch, Option.map_some]
  · rw [Memory.readSample, hf, Option.map_some]

theorem InChannel.sampleTaken (h : InChannel batch s) {v : Sample}
    (hv : (channelSamples batch s.doaC)[s.doaI]? = some v) :
    InChannel batch (sampleTaken v s) where
  toReadsBatch := h.toReadsBatch.sampleTaken v
  demux := h.demux
  stored i (hi : i < s.doaI + 1) := by
    rw [sampleTaken_read_ch]
    rcases Nat.lt_or_eq_of_le (Nat.le_of_lt_succ hi) with hlt | rfl
    · rw [if_neg (fun hlast => Nat.ne_of_lt hlt hlast.2)]
      exact h.stored i hlt
    · rw [if_pos ⟨rfl, rfl⟩]
      exact hv.symm
  summed := (congrArg (· + v.signExtend 64) h.summed).trans (channelSum_take_succ hv).symm

theorem InChannel.step_of_inner (h : InChannel batch s) (hi : s.doaI + 1 < s.cfg.signalLen) :
    ∃ v, step s = .next (Machine.sampleTaken v s) ∧ InChannel batch (Machine.sampleTaken v s) := by
  obtain ⟨v, hv, hread⟩ := h.exists_sample (Nat.lt_of_succ_lt hi)
  exact ⟨v, h.step_eq.trans (doaDemux_of_inner hread (Nat.ne_of_lt hi)), h.sampleTaken hv⟩

theorem InChannel.step_of_last (h : InChannel batch s) (hi : s.doaI + 1 = s.cfg.signalLen) :
    step s = .next (channelDemuxed batch s) := by
  obtain ⟨v, hv, hread⟩ := h.exists_sample (hi ▸ Nat.lt_succ_self _)
  have hl : (channelSamples batch s.doaC).length = s.cfg.signalLen :=
    (channelSamples_length ..).trans h.length_eq
  have hsum : s.dmxSum + v.signExtend 64 = channelSum (channelSamples batch s.doaC) := by
    rw [h.summed, ← channelSum_take_succ hv, List.take_of_length_le (by omega)]
  rw [h.step_eq, doaDemux_of_last hread hi hl hv h.stored, hsum, channelDemuxed]

/-- The samples left of a channel are taken one per step, and the last step ends the channel. -/
theorem InChannel.run (h : InChannel batch s) (hk : s.doaI + (k + 1) = s.cfg.signalLen) :
    DoaRun (k + 1) s (channelDemuxed batch s) := by
  induction k generalizing s with
  | zero => exact .single (h.step_of_last hk) (channelDone_doaPhase_ne_idle h.demux _ _) rfl
  | succ k ih =>
    obtain ⟨v, hn, hnext⟩ := h.step_of_inner (by omega)
    have hleft : s.doaI + 1 + (k + 1) = s.cfg.signalLen := by omega
    have hrest : DoaRun (k + 1) (Machine.sampleTaken v s)
        (channelDemuxed batch (Machine.sampleTaken v s)) := ih hnext hleft
    have hend : channelDemuxed batch (Machine.sampleTaken v s) = channelDemuxed batch s :=
      channelDone_sampleTaken _ _ v s
    exact .head hn h.ne_idle rfl (hend ▸ hrest)

/-! ### Channel by channel (R256) -/

/-- The `Demux` phase at the start of channel `c`, with the stores `m`. -/
def atChannel (c : Fin 4) (m : Memory) (s : State) : State :=
  { s with mem := m, dmxSum := 0, doaPhase := .demux, doaC := c, doaI := 0 }

/-- The stores `m` with the series of channel `c` of the batch in `CH`. -/
def withChannel (batch : List Frame) (s : State) (m : Memory) (c : Fin 4) : Memory :=
  m.setCh c (channelSeries s.cfg.signalLen batch c)

/-- The end of the `Demux` phase: what `FROM_BATCH` leaves in `CH`, and the release. -/
def phaseDemuxed (batch : List Frame) (s : State) : State :=
  { demuxBatch batch s with
    dmxSum := 0, doaI := 0, doaC := 3, capOut := false, doaPhase := .compute }

theorem ReadsBatch.inChannel (h : ReadsBatch batch s) {m : Memory} (c : Fin 4)
    (hm : ∀ b, m.buf b = s.mem.buf b) : InChannel batch (atChannel c m s) :=
  { h with
    frames := fun i hi => (keepsBuf_of_buf_eq (t := atChannel c m s) hm _ _).trans (h.frames i hi)
    demux := rfl
    stored := fun i hi => absurd hi (Nat.not_lt_zero i)
    summed := rfl }

theorem channelDemuxed_atChannel {c : Fin 4} (hc : c ≠ 3) (m : Memory) :
    channelDemuxed batch (atChannel c m s) = atChannel (c + 1) (withChannel batch s m c) s := by
  have hnext : (atChannel c m s).doaC ≠ 3 := hc
  rw [channelDemuxed, channelDone]
  simp only [if_neg hnext]
  rfl

/-- A whole channel takes `SIGNAL_LEN` steps. -/
theorem ReadsBatch.channelRun (h : ReadsBatch batch s) (hpos : 1 ≤ s.cfg.signalLen) {m : Memory}
    (c : Fin 4) (hm : ∀ b, m.buf b = s.mem.buf b) :
    DoaRun s.cfg.signalLen (atChannel c m s) (channelDemuxed batch (atChannel c m s)) := by
  obtain ⟨k, hk⟩ : ∃ k, s.cfg.signalLen = k + 1 := ⟨_, (Nat.sub_add_cancel hpos).symm⟩
  rw [hk]
  exact (h.inChannel c hm).run ((Nat.zero_add _).trans hk.symm)

theorem ReadsBatch.nextChannelRun (h : ReadsBatch batch s) (hpos : 1 ≤ s.cfg.signalLen) {m : Memory}
    {c : Fin 4} (hc : c ≠ 3) (hm : ∀ b, m.buf b = s.mem.buf b) :
    DoaRun s.cfg.signalLen (atChannel c m s) (atChannel (c + 1) (withChannel batch s m c) s) :=
  channelDemuxed_atChannel (batch := batch) hc m ▸ h.channelRun hpos c hm

theorem buf_withChannel {m : Memory} (hm : ∀ b, m.buf b = s.mem.buf b) (c : Fin 4) (b : Fin 2) :
    (withChannel batch s m c).buf b = s.mem.buf b := (Memory.buf_setCh ..).trans (hm b)

/-- The phase is the four channels in order. -/
theorem ReadsBatch.demuxRun (h : ReadsBatch batch s) (hpos : 1 ≤ s.cfg.signalLen) :
    DoaRun (4 * s.cfg.signalLen) (atChannel 0 s.mem s) (phaseDemuxed batch s) := by
  have hm0 : ∀ b, s.mem.buf b = s.mem.buf b := fun _ => rfl
  have hm1 := buf_withChannel (batch := batch) hm0 0
  have hm2 := buf_withChannel (batch := batch) hm1 1
  have hm3 := buf_withChannel (batch := batch) hm2 2
  have hrun := (((h.nextChannelRun hpos (c := 0) (by decide) hm0).trans
    (h.nextChannelRun hpos (c := 1) (by decide) hm1)).trans
    (h.nextChannelRun hpos (c := 2) (by decide) hm2)).trans (h.channelRun hpos 3 hm3)
  have hcount : 4 * s.cfg.signalLen =
      s.cfg.signalLen + (s.cfg.signalLen + (s.cfg.signalLen + s.cfg.signalLen)) := by omega
  rw [hcount]
  exact hrun

/-! ### The whole task (R258) -/

/-- The steps before the `Demux` phase: the start step, and `CopyTx` if samples are sent. -/
def stepsToDemux (c : Config) : Nat := (if c.sendSamples then c.signalLen else 0) + 1

theorem Undisturbed.runToDemux (h : Undisturbed s) (hp : s.doaPhase = .idle)
    (hd : s.pendDoa = true) (hpos : 1 ≤ s.cfg.signalLen)
    (hb : Store.readAll (s.mem.buf s.doaNewest) s.cfg.signalLen = some batch) :
    ∃ raw queue drop, DoaRun (stepsToDemux s.cfg) s (demuxBegun raw queue drop (doaStart s)) ∧
      ReadsBatch batch (demuxBegun raw queue drop (doaStart s)) := by
  have hreads : ReadsBatch batch (doaStart s) := Undisturbed.readsBatch { h with } hb
  have hn : step s = .next (doaStart s) := (h.step_eq (.inl hd)).trans (execTDoa_of_idle hp)
  have hphase := doaStart_doaPhase s
  cases hsend : s.cfg.sendSamples with
  | true =>
    rw [hsend, if_pos rfl] at hphase
    obtain ⟨k, hk⟩ : ∃ k, s.cfg.signalLen = k + 1 := ⟨_, (Nat.sub_add_cancel hpos).symm⟩
    obtain ⟨raw, queue, drop, hcopy⟩ :=
      hreads.copyRun hphase ((Nat.zero_add _).trans hk.symm) (written_zero _)
    refine ⟨raw, queue, drop, ?_, hreads.demuxBegun raw queue drop⟩
    rw [stepsToDemux, hsend, if_pos rfl, hk]
    exact .head hn (by rw [hphase]; exact nofun) rfl hcopy
  | false =>
    rw [hsend, if_neg Bool.false_ne_true] at hphase
    have hbegun : demuxBegun s.mem.raw s.txqS s.gTxDrop (doaStart s) = doaStart s := by
      rw [demuxBegun, ← hphase]
      rfl
    refine ⟨_, _, _, ?_, hreads.demuxBegun s.mem.raw s.txqS s.gTxDrop⟩
    rw [stepsToDemux, hsend, if_neg Bool.false_ne_true, hbegun]
    exact .single hn (by rw [hphase]; exact nofun) rfl

/-- From `Idle` to the `Compute` phase. -/
theorem Undisturbed.runToCompute (h : Undisturbed s) (hp : s.doaPhase = .idle)
    (hd : s.pendDoa = true) (hpos : 1 ≤ s.cfg.signalLen)
    (hb : Store.readAll (s.mem.buf s.doaNewest) s.cfg.signalLen = some batch) :
    ∃ u, DoaRun (4 * s.cfg.signalLen + stepsToDemux s.cfg) s (phaseDemuxed batch u) ∧
      ReadsBatch batch u ∧ u.cfg = s.cfg ∧ u.lagTab = s.lagTab ∧ u.pendDoa = false ∧
      u.doaSrc = s.doaNewest := by
  obtain ⟨raw, queue, drop, hrun, hreads⟩ := h.runToDemux hp hd hpos hb
  exact ⟨_, hrun.trans (hreads.demuxRun hpos), hreads, rfl, rfl, rfl, rfl⟩

theorem written_phaseDemuxed (h : batch.length = s.cfg.signalLen) (c : Fin 4) :
    written ((phaseDemuxed batch s).mem.ch.get c) s.cfg.signalLen := by
  have hwritten := written_ofList (channelSeries s.cfg.signalLen batch c)
  rw [channelSeries_length, h, ← demuxBatch_ch] at hwritten
  exact hwritten

@[simp] theorem phaseDemuxed_cfg (batch : List Frame) (s : State) :
    (phaseDemuxed batch s).cfg = s.cfg := by simp only [phaseDemuxed, demuxBatch_cfg]
@[simp] theorem phaseDemuxed_lagTab (batch : List Frame) (s : State) :
    (phaseDemuxed batch s).lagTab = s.lagTab := by simp only [phaseDemuxed, demuxBatch_lagTab]
@[simp] theorem phaseDemuxed_pendDoa (batch : List Frame) (s : State) :
    (phaseDemuxed batch s).pendDoa = s.pendDoa := by simp only [phaseDemuxed, demuxBatch_pendDoa]
@[simp] theorem phaseDemuxed_doaSrc (batch : List Frame) (s : State) :
    (phaseDemuxed batch s).doaSrc = s.doaSrc := by simp only [phaseDemuxed, demuxBatch_doaSrc]

/-- The last step of a run. -/
theorem Undisturbed.step_of_compute (h : Undisturbed s) (hp : s.doaPhase = .compute)
    (hc : configValid s.cfg = true) (ht : s.lagTab = genLagTable s.cfg)
    (hw : ∀ c, written (s.mem.ch.get c) s.cfg.signalLen) :
    ∃ t, step s = .next t ∧ t.doaPhase = .idle ∧ t.pendDoa = s.pendDoa ∧ t.doaSrc = s.doaSrc := by
  have hrun : s.doaPhase ≠ .idle := by rw [hp]; exact nofun
  obtain ⟨xs, ys, d, hpan⟩ := exists_axisReads hc ht hw .pan
  obtain ⟨xs', ys', d', htilt⟩ := exists_axisReads hc ht hw .tilt
  have hn : step s = .next (bothComputed xs ys d xs' ys' d' s) := by
    rw [h.step_eq (.inr hrun), execTDoa_of_compute hp, doaCompute_of_axisReads hpan htilt]
  exact ⟨_, hn, by simp only [bothComputed], by simp only [bothComputed],
    by simp only [bothComputed]⟩

theorem ReadsBatch.step_phaseDemuxed (h : ReadsBatch batch s) (hc : configValid s.cfg = true)
    (ht : s.lagTab = genLagTable s.cfg) :
    ∃ t, step (phaseDemuxed batch s) = .next t ∧ t.doaPhase = .idle ∧ t.pendDoa = s.pendDoa ∧
      t.doaSrc = s.doaSrc := by
  have hundisturbed : Undisturbed (phaseDemuxed batch s) := { h with }
  have hlast := hundisturbed.step_of_compute rfl
  rw [phaseDemuxed_cfg, phaseDemuxed_lagTab, phaseDemuxed_pendDoa, phaseDemuxed_doaSrc] at hlast
  exact hlast hc ht (written_phaseDemuxed h.length_eq)

end Sys2Proof.Machine

open Sys2Proof Sys2Proof.Machine

/-- Settles O38: the phase begins at channel 0 and ends channel by channel. -/
theorem doaDemuxPhaseIsFromBatch : Obligations.DoaDemuxPhaseIsFromBatch := by
  intro s batch hr hs hb ht hl hp hi hc hsum hpos hread
  have hreads : ReadsBatch batch s := Undisturbed.readsBatch ⟨hr, hs, hb, ht, hl⟩ hread
  have hstart : atChannel 0 s.mem s = s := by rw [atChannel, ← hsum, ← hp, ← hc, ← hi]
  have hend : phaseDemuxed batch s =
      { demuxBatch batch s with dmxSum := 0, doaC := 3, capOut := false, doaPhase := .compute } := by
    rw [phaseDemuxed, ← hi]
    rfl
  have hrun := (hreads.demuxRun hpos).stepMany_eq
  rw [hstart, hend] at hrun
  exact ⟨demuxBatch batch s, execFromBatch_of_value (if_pos hreads.length_eq), hrun⟩

/-- Settles O39: the steps up to the `Compute` phase are a `DoaRun`; the `Compute` step ends it. -/
theorem doaRunTakesItsSteps : Obligations.DoaRunTakesItsSteps := by
  intro s hr hs hb htxc hl hp hd hc ht hw
  have h : Undisturbed s := ⟨hr, hs, hb, htxc, hl⟩
  have hpos : 1 ≤ s.cfg.signalLen := by
    simp only [configValid, Bool.and_eq_true, decide_eq_true_eq] at hc
    omega
  obtain ⟨batch, hbatch⟩ := (Store.readAll_isSome ..).mpr hw
  obtain ⟨u, hrun, hreads, hcfg, htab, hdone, hsrc⟩ := h.runToCompute hp hd hpos hbatch
  obtain ⟨t, hn, hidle, hdoa, hsrc'⟩ :=
    hreads.step_phaseDemuxed (hcfg ▸ hc) (htab.trans (hcfg ▸ ht))
  refine ⟨4 * s.cfg.signalLen + stepsToDemux s.cfg, ?_, ⟨t, hrun.stepMany_succ hn, hidle,
    hdoa.trans hdone, hsrc'.trans hsrc⟩, fun k hk hlast => hrun.exists_at hk hlast⟩
  rw [stepsToDemux]
  omega
end

section
/-! Who takes the next step (O33, O46, O48): what each move of the environment does, which level the
processor agent serves, and that the two handlers of level 2 commute (R274, R282, R283). -/

namespace Sys2Proof.Machine

-- One after another, as above.
set_option Elab.async false

variable {s : State} {l : Level} {tx : Bool} {rest : List Move}

/-! ### Moves with an enabling condition (R274) -/

theorem drainEnabled_iff : drainEnabled s = true ↔ s.txBusy = true ∧ s.pendTxc = false := by
  simp [drainEnabled]

theorem tickMove_of_enabled (hen : s.capEn = true) (hp : s.capPaused = false) (f : Frame) :
    tickMove f s = execTick f s := if_pos (tickEnabled_iff.mpr ⟨hen, hp⟩)

theorem tickMove_of_not_enabled (h : s.capEn = false ∨ s.capPaused = true) (f : Frame) :
    tickMove f s = .refused .moveNotEnabled := by
  refine if_neg fun hen => ?_
  obtain ⟨hen, hp⟩ := tickEnabled_iff.mp hen
  rcases h with h | h
  · exact nomatch h.symm.trans hen
  · exact nomatch h.symm.trans hp

theorem drainLink_of_enabled (hb : s.txBusy = true) (ht : s.pendTxc = false) :
    drainLink s = .next { s with linkTx := s.linkTx ++ s.txBuf, pendTxc := true } :=
  if_pos (drainEnabled_iff.mpr ⟨hb, ht⟩)

theorem drainLink_of_not_enabled (h : s.txBusy = false ∨ s.pendTxc = true) :
    drainLink s = .refused .moveNotEnabled := by
  refine if_neg fun hen => ?_
  obtain ⟨hb, ht⟩ := drainEnabled_iff.mp hen
  rcases h with h | h
  · exact nomatch h.symm.trans hb
  · exact nomatch h.symm.trans ht

/-- A `Command` is a value of its type whatever it holds, so it always has a frame. -/
theorem execEncodeFrame_command (c : Command) (s : State) :
    execEncodeFrame (.command c) s = .next { s with ret := .bytes (frameOf (.command c)) } :=
  (ifWellFormed_eq_next ..).mpr ⟨rfl, rfl⟩

/-! ### When a level is runnable (R282) -/

theorem pendRx_iff : pendRx s = true ↔ s.linkRxq ≠ [] := by simp [pendRx]

theorem runnable_l2_iff : runnable s .l2 = true ↔ s.pendTxc = true ∨ s.linkRxq ≠ [] := by
  rw [runnable, Bool.or_eq_true, pendRx_iff]

theorem runnable_l3_iff : runnable s .l3 = true ↔ s.pendDoa = true ∨ s.doaPhase ≠ .idle := by
  rw [runnable, Bool.or_eq_true, bne_iff_ne]

theorem runnable_l4_iff : runnable s .l4 = true ↔ s.cmdq ≠ [] := by simp [runnable, pendCmd]

theorem runnable_l6_iff :
    runnable s .l6 = true ↔ (s.txqR ≠ [] ∨ s.txqS ≠ []) ∧ s.txBusy = false := by
  simp [runnable, pendTx]

theorem runnable_sched (s : State) (rest : List Move) :
    runnable { s with sched := rest } = runnable s := by
  funext l
  cases l <;> rfl

/-! ### The smallest runnable level (R282) -/

/-- The levels in the order in which `topLevel` tries them. -/
def levelOrder : List Level := [.l1, .l2, .l3, .l4, .l5, .l6]

theorem topLevel_eq (s : State) : topLevel s = levelOrder.find? (runnable s) := rfl

/-- The order is that of the numbers. -/
theorem number_levelOrder :
    ∀ (i : Nat) (hi : i < levelOrder.length), levelOrder[i].number = i + 1 := by
  decide

theorem levelOrder_number (l : Level) : levelOrder[l.number - 1]? = some l := by cases l <;> rfl

/-- `topLevel` answers a runnable level when no level with a smaller number is runnable. -/
theorem topLevel_of_smallest (hl : runnable s l = true)
    (hmin : ∀ l', l'.number < l.number → runnable s l' = false) : topLevel s = some l := by
  obtain ⟨hi, hget⟩ := List.getElem?_eq_some_iff.mp (levelOrder_number l)
  rw [topLevel_eq]
  refine List.find?_eq_some_iff_getElem.mpr ⟨hl, _, hi, hget, fun j hj => ?_⟩
  have hsmaller : levelOrder[j].number < l.number := by
    rw [number_levelOrder]
    omega
  rw [hmin _ hsmaller]
  rfl

theorem topLevel_of_none (h : ∀ l, runnable s l = false) : topLevel s = none :=
  List.find?_eq_none.mpr fun l _ => by rw [h l]; exact Bool.false_ne_true

/-! ### What the processor agent runs at a level -/

/-- The step of a level; at level 2 the one its handlers' order `tx` names. -/
def levelStep (tx : Bool) (s : State) : Level → StepOutcome
  | .l1 => exec .hCaptureComplete s
  | .l2 => level2Step tx s
  | .l3 => exec .tDoa s
  | .l4 => exec .tCommand s
  | .l5 => exec .tServoTick s
  | .l6 => exec .tTransmit s

theorem processorStep_of_topLevel (h : topLevel s = some l) (tx : Bool) :
    processorStep tx s = levelStep tx s l := by
  rw [processorStep, h]
  cases l <;> rfl

theorem processorStep_of_none (h : topLevel s = none) (tx : Bool) :
    processorStep tx s = .next s := by
  rw [processorStep, h]

theorem level2Step_of_no_completion (h : s.pendTxc = false) (tx : Bool) :
    level2Step tx s = exec .hRx s := by
  rw [level2Step, h]
  rfl

theorem level2Step_of_no_chunk (ht : s.pendTxc = true) (hq : s.linkRxq = []) (tx : Bool) :
    level2Step tx s = exec .hTxComplete s :=
  if_pos (by simp [ht, pendRx, hq])

/-- With both handlers pending the choice decides (R283, log 5). -/
theorem level2Step_of_both (ht : s.pendTxc = true) (hq : s.linkRxq ≠ []) (tx : Bool) :
    level2Step tx s = exec (if tx then .hTxComplete else .hRx) s := by
  rw [level2Step, ht, pendRx_iff.mpr hq]
  cases tx <;> rfl

/-! ### A turn the schedule does not name (logs 4, 5) -/

theorem level2Tie_iff :
    level2Tie s = true ↔ s.pendBatch = false ∧ s.pendTxc = true ∧ s.linkRxq ≠ [] := by
  simp [level2Tie, pendRx_iff, and_assoc]

theorem step_of_no_sched (hr : s.inReset = false) (hs : s.sched = []) :
    step s = unscheduledStep s := by
  simp [step, hr, hs]

theorem unscheduledStep_of_no_tie
    (h : s.pendBatch = true ∨ s.pendTxc = false ∨ s.linkRxq = []) :
    unscheduledStep s = processorStep true s := by
  refine if_neg fun htie => ?_
  obtain ⟨hb, ht, hq⟩ := level2Tie_iff.mp htie
  rcases h with h | h | h
  · exact nomatch hb.symm.trans h
  · exact nomatch h.symm.trans ht
  · exact hq h

theorem topLevel_of_tie (hb : s.pendBatch = false) (ht : s.pendTxc = true) :
    topLevel s = some .l2 := by
  refine topLevel_of_smallest (runnable_l2_iff.mpr (.inl ht)) fun l' hlt => ?_
  cases l' with
  | l1 => exact hb
  | l2 | l3 | l4 | l5 | l6 => exact absurd hlt (by decide)

/-- At a tie the step draws a choice and runs the handler it names. -/
theorem unscheduledStep_of_tie (hb : s.pendBatch = false) (ht : s.pendTxc = true)
    (hq : s.linkRxq ≠ []) :
    unscheduledStep s = exec (if Config.level2TxFirst s.l2Draws then .hTxComplete else .hRx)
      { s with l2Draws := s.l2Draws + 1 } := by
  have htie : level2Tie s = true := level2Tie_iff.mpr ⟨hb, ht, hq⟩
  have htop : topLevel { s with l2Draws := s.l2Draws + 1 } = some .l2 := topLevel_of_tie hb ht
  rw [unscheduledStep, if_pos htie, processorStep_of_topLevel htop]
  exact level2Step_of_both (s := { s with l2Draws := s.l2Draws + 1 }) ht hq _

/-! ### The handlers of level 2 commute (R283) -/

/-- What `H_TX_COMPLETE` makes of a state (R252). -/
def flightEnded (s : State) : State := { s with pendTxc := false, txBusy := false }

theorem exec_hTxComplete (s : State) : exec .hTxComplete s = .next (flightEnded s) := rfl

/-- Handling a result neither reads nor writes the two bits of a flight. -/
theorem handleResult_flightEnded (r : FeedResult) (s : State) :
    handleResult r (flightEnded s) = flightEnded (handleResult r s) := by
  cases r with
  | needMore | overFull | deserError => rfl
  | ready m =>
    cases m with
    | sync | panTiltStatus _ _ | samples _ => rfl
    | command c =>
      rw [handleResult, handleResult, deliverMessage, deliverMessage, apply_ite flightEnded]
      rfl

theorem feedChunk_flightEnded (chunk : List Byte) (s : State) :
    feedChunk chunk (flightEnded s) = flightEnded (feedChunk chunk s) :=
  List.foldl_hom (init := { s with rxAcc := (feedAll s.cfg s.rxAcc chunk).2 }) flightEnded
    fun t r => handleResult_flightEnded r t

/-- `H_RX` answers alike before and after the end of a flight. -/
theorem exists_execHRx_flightEnded (s : State) :
    ∃ a, execHRx s = .next a ∧ execHRx (flightEnded s) = .next (flightEnded a) := by
  cases hq : s.linkRxq with
  | nil => exact ⟨s, execHRx_of_none hq, execHRx_of_none hq⟩
  | cons chunk rest =>
    have hended : execHRx (flightEnded s) =
        .next (feedChunk chunk (flightEnded { s with linkRxq := rest })) := execHRx_of_chunk hq
    exact ⟨_, execHRx_of_chunk hq, hended.trans (congrArg _ (feedChunk_flightEnded chunk _))⟩

end Sys2Proof.Machine

open Sys2Proof Sys2Proof.Machine

/-- Settles O33: receiving a chunk does not touch the bits `H_TX_COMPLETE` clears. -/
theorem levelTwoHandlersCommute : Obligations.LevelTwoHandlersCommute := by
  refine fun s => ⟨?_, fun hr hs hb ht hq => ?_⟩
  · obtain ⟨a, hbefore, hafter⟩ := exists_execHRx_flightEnded s
    exact ⟨a, flightEnded s, flightEnded a, hbefore, exec_hTxComplete a, exec_hTxComplete s,
      hafter⟩
  · rw [step_of_no_sched hr hs, unscheduledStep_of_tie hb ht hq]
    cases Config.level2TxFirst s.l2Draws with
    | true => exact .inl rfl
    | false => exact .inr rfl

/-- Settles O48: `topLevel` is the smallest runnable level, and taking the turn off the schedule changes
no level. -/
theorem processorServesSmallestLevel : Obligations.ProcessorServesSmallestLevel := by
  intro s tx rest hr hs
  have hturn : step s = processorStep tx { s with sched := rest } := step_of_sched hr hs
  refine ⟨⟨.rfl, runnable_l2_iff, runnable_l3_iff, runnable_l4_iff, .rfl, runnable_l6_iff⟩,
    fun l hl hmin => ?_, fun hnone => ?_, fun u hr' hs' htie => ?_⟩
  · have htop : topLevel { s with sched := rest } = some l := by
      rw [← runnable_sched s rest] at hl hmin
      exact topLevel_of_smallest hl hmin
    have hserved : ∀ k, l = k → step s = levelStep tx { s with sched := rest } k := by
      rintro _ rfl
      exact hturn.trans (processorStep_of_topLevel htop tx)
    refine ⟨hserved .l1, fun h2 ht => (hserved .l2 h2).trans ?_,
      fun h2 hq => (hserved .l2 h2).trans ?_, fun h2 ht hq => (hserved .l2 h2).trans ?_,
      hserved .l3, hserved .l4, hserved .l5, hserved .l6⟩
    · exact level2Step_of_no_completion (s := { s with sched := rest }) ht tx
    · have ht : s.pendTxc = true :=
        (runnable_l2_iff.mp (h2 ▸ hl)).resolve_right (not_not_intro hq)
      exact level2Step_of_no_chunk (s := { s with sched := rest }) ht hq tx
    · exact level2Step_of_both (s := { s with sched := rest }) ht hq tx
  · have htop : topLevel { s with sched := rest } = none := by
      rw [← runnable_sched s rest] at hnone
      exact topLevel_of_none hnone
    exact hturn.trans (processorStep_of_none htop tx)
  · have hnamed : step { u with sched := [.processor true] } =
        processorStep true { u with sched := [] } :=
      step_of_sched (s := { u with sched := [.processor true] }) hr' rfl
    rw [hnamed, ← hs', step_of_no_sched hr' hs', unscheduledStep_of_no_tie htie]

/-- Settles O46: the turn of each move, and the two enabling conditions. -/
theorem environmentMoves : Obligations.EnvironmentMoves := by
  intro s m rest hr hs
  have hturn : ∀ k, m = k → step s = runTurn k { s with sched := rest } := by
    rintro _ rfl
    exact step_of_sched hr hs
  exact ⟨fun f hm hen hp => (hturn _ hm).trans
      (tickMove_of_enabled (s := { s with sched := rest }) hen hp f),
    fun f hm hoff => (hturn _ hm).trans
      (tickMove_of_not_enabled (s := { s with sched := rest }) hoff f),
    fun chunk => hturn (.deliver chunk),
    fun hm hb ht => (hturn _ hm).trans (drainLink_of_enabled hb ht),
    fun hm hoff => (hturn _ hm).trans (drainLink_of_not_enabled hoff),
    hturn .servoTick,
    fun c hm => ⟨frameOf (.command c), execEncodeFrame_command c s, hturn _ hm⟩,
    hturn .hostReceive, hturn .sendSync⟩
end

section
/-! The configuration check (O50): the constraints of R313 on the block and on each axis, and the step of
a block that fails it (R312). -/

namespace Sys2Proof.Machine

-- One after another, as above.
set_option Elab.async false

variable {c : Config} {s : State}

/-- The constraints on one axis (R313). -/
theorem axisValid_iff {a : Axis} :
    axisValid c a = true ↔
      1 ≤ (c.servoMax.get a).toInt ∧ 0 ≤ (c.servoInit.get a).toInt ∧
        (c.servoInit.get a).toInt ≤ (c.servoMax.get a).toInt ∧
        (c.doaSign.get a = 1 ∨ c.doaSign.get a = -1) := by
  simp only [axisValid, Bool.and_eq_true, Bool.or_eq_true, decide_eq_true_eq, beq_iff_eq, and_assoc]

/-- A constraint on every axis is one on each of the two. -/
theorem Axis.forall_iff {P : Axis → Prop} : (∀ a, P a) ↔ P .pan ∧ P .tilt := by
  refine ⟨fun h => ⟨h .pan, h .tilt⟩, fun ⟨hpan, htilt⟩ a => ?_⟩
  cases a with
  | pan => exact hpan
  | tilt => exact htilt

/-- The configuration check is its list of constraints (R313), with the formula of `K` and the
constraints on an axis by name. -/
theorem configValid_iff :
    configValid c = true ↔
      1 ≤ c.signalLen ∧ c.signalLen ≤ 2 ^ 31 ∧ 1 ≤ c.xcorrLen ∧ c.xcorrLen ≤ 2 * c.signalLen - 1 ∧
      1 ≤ c.tSUs ∧ 1 ≤ c.dMicsMm ∧ 1 ≤ c.vSound ∧ c.k = geometryK c ∧ 3 ≤ c.k ∧
      (∀ a, axisValid c a = true) ∧
      15 ≤ c.nRx ∧ 1 ≤ c.txqReplyCap ∧ 1 ≤ c.txqSamplesCap ∧ 1 ≤ c.cmdqCap ∧
      c.pairPan.1 ≠ c.pairPan.2 ∧ c.pairTilt.1 ≠ c.pairTilt.2 := by
  simp only [configValid, Axis.forall_iff, Bool.and_eq_true, decide_eq_true_eq, beq_iff_eq,
    bne_iff_ne, and_assoc]

/-- A configuration that fails the check has no reset exit (R312, R313). -/
theorem exitReset_of_invalid (hc : configValid s.cfg = false) :
    exitReset s = .refused .configFault :=
  if_neg (Bool.eq_false_iff.mp hc)

/-- In reset the only step is the exit, whatever the schedule names (R312). -/
theorem step_eq_exitReset (hr : s.inReset = true) : step s = exitReset s :=
  if_pos hr

end Sys2Proof.Machine

open Sys2Proof Sys2Proof.Machine

/-- Settles O50: the check constraint by constraint, and the reset exit it refuses. -/
theorem configCheckConditions : Obligations.ConfigCheckConditions := by
  refine fun c => ⟨?_, ?_⟩
  · simpa only [axisValid_iff, geometryK] using configValid_iff (c := c)
  · rintro s rfl hr hc
    exact (step_eq_exitReset hr).trans (exitReset_of_invalid hc)
end

section
/-! The round trip of the Messages (O20), which the facts about the codec already hold (R216, R217). -/

open Sys2Proof Sys2Proof.Machine

/-- Settles O20: the round trip of the Message codec, in both directions. -/
theorem messagesSurviveTheWire : Obligations.MessagesSurviveTheWire :=
  fun _ => ⟨fun _ => deserialize_serialize, fun _ _ => serialize_of_deserialize⟩
end

section
/-! Stuffing (O22 to O24): one equation per block for `STUFF` and for `UNSTUFF`, and the induction over
the blocks of a payload (R218 to R220). -/

-- One after another, as above.
set_option Elab.async false

namespace Sys2Proof.Machine

variable {s : State} {block tail rest body p : List Byte} {code : Byte}

/-! ### `STUFF`, block by block (R218) -/

/-- The code byte of a block counts the block and itself. -/
theorem toNat_blockCode (h : block.length ≤ 254) :
    (BitVec.ofNat 8 (block.length + 1)).toNat = block.length + 1 := by
  rw [BitVec.toNat_ofNat]
  exact Nat.mod_eq_of_lt (by omega)

theorem blockCode_ne_zero (h : block.length ≤ 254) : BitVec.ofNat 8 (block.length + 1) ≠ 0x00 := by
  intro hz
  have hcode := toNat_blockCode h
  rw [hz] at hcode
  exact absurd hcode (Nat.succ_ne_zero _).symm

theorem stuffBlock_of_full (h : block.length = 254) : stuffBlock block = 0xFF :: block := by
  rw [stuffBlock, h]
  rfl

/-- Non-zero bytes short of a full block are gathered. -/
theorem stuffLoop_append (pre : List Byte) (hne : ∀ v ∈ block, v ≠ 0x00)
    (hlen : pre.length + block.length < 254) :
    stuffLoop pre (block ++ tail) = stuffLoop (pre ++ block) tail := by
  induction block generalizing pre with
  | nil => rw [List.nil_append, List.append_nil]
  | cons v vs ih =>
    obtain ⟨hv, hvs⟩ := List.forall_mem_cons.mp hne
    rw [List.length_cons] at hlen
    have hroom : (pre ++ [v]).length ≠ 254 := by rw [List.length_append, List.length_singleton]; omega
    have hlen' : (pre ++ [v]).length + vs.length < 254 := by
      rw [List.length_append, List.length_singleton]; omega
    rw [List.cons_append, stuffLoop, if_neg hv, if_neg hroom, ih _ hvs hlen', List.append_assoc,
      List.singleton_append]

theorem stuffBytes_append (hne : ∀ v ∈ block, v ≠ 0x00) (hlen : block.length < 254) :
    stuffBytes (block ++ tail) = stuffLoop block tail :=
  stuffLoop_append [] hne (by simpa using hlen)

/-- At the end of the payload. -/
theorem stuffBytes_last (hne : ∀ v ∈ block, v ≠ 0x00) (hlen : block.length < 254) :
    stuffBytes block = stuffBlock block := by
  have hloop := stuffBytes_append (tail := []) hne hlen
  rwa [List.append_nil, stuffLoop] at hloop

/-- At a zero. -/
theorem stuffBytes_zero (hne : ∀ v ∈ block, v ≠ 0x00) (hlen : block.length < 254) :
    stuffBytes (block ++ 0x00 :: tail) = stuffBlock block ++ stuffBytes tail := by
  rw [stuffBytes_append hne hlen, stuffLoop, if_pos rfl, stuffBytes]

/-- After 254 non-zero bytes: the last of them closes the block. -/
theorem stuffBytes_full (hne : ∀ v ∈ block, v ≠ 0x00) (hlen : block.length = 254) :
    stuffBytes (block ++ tail) = stuffBlock block ++ stuffBytes tail := by
  obtain ⟨init, v, rfl⟩ := (List.eq_nil_or_concat' block).resolve_left (by rintro rfl; cases hlen)
  have hinit : init.length < 254 := by
    rw [List.length_append, List.length_singleton] at hlen; omega
  have hv : v ≠ 0x00 := hne v (by simp)
  have hnei : ∀ w ∈ init, w ≠ 0x00 := fun w hw => hne w (List.mem_append_left _ hw)
  rw [stuffBlock_of_full hlen, List.append_assoc, List.singleton_append, stuffBytes_append hnei hinit,
    stuffLoop, if_neg hv, if_pos hlen, stuffBytes]

/-- Every payload is cut into blocks as `STUFF` cuts it, so what holds at the end and is carried over a
block in front holds of every payload. -/
theorem payload_induction {P : List Byte → Prop}
    (hlast : ∀ block, (∀ v ∈ block, v ≠ 0x00) → block.length < 254 → P block)
    (hzero : ∀ block tail, (∀ v ∈ block, v ≠ 0x00) → block.length < 254 → P tail →
      P (block ++ 0x00 :: tail))
    (hfull : ∀ block tail, (∀ v ∈ block, v ≠ 0x00) → block.length = 254 → P tail →
      P (block ++ tail)) (p : List Byte) : P p := by
  suffices hloop : ∀ p block : List Byte, (∀ v ∈ block, v ≠ 0x00) → block.length < 254 →
      P (block ++ p) from hloop p [] (by simp) (by simp)
  intro p
  induction p with
  | nil => intro block hne hlen; rw [List.append_nil]; exact hlast block hne hlen
  | cons v vs ih =>
    intro block hne hlen
    have htail : P vs := ih [] (by simp) (by simp)
    by_cases hv : v = 0x00
    · rw [hv]; exact hzero block vs hne hlen htail
    · have hne' : ∀ w ∈ block ++ [v], w ≠ 0x00 :=
        List.forall_mem_append.mpr ⟨hne, List.forall_mem_singleton.mpr hv⟩
      have hsnoc : (block ++ [v]).length = block.length + 1 := by simp
      rw [← List.singleton_append, ← List.append_assoc]
      by_cases hf : (block ++ [v]).length = 254
      · exact hfull _ vs hne' hf htail
      · exact ih _ hne' (by omega)

theorem stuffBlock_ne_zero (hne : ∀ v ∈ block, v ≠ 0x00) (hlen : block.length ≤ 254) :
    ∀ v ∈ stuffBlock block, v ≠ 0x00 :=
  List.forall_mem_cons.mpr ⟨blockCode_ne_zero hlen, hne⟩

/-- The delimiter does not occur in a body (R218). -/
theorem stuffBytes_ne_zero (p : List Byte) : ∀ v ∈ stuffBytes p, v ≠ 0x00 := by
  induction p using payload_induction with
  | hlast block hne hlen => rw [stuffBytes_last hne hlen]; exact stuffBlock_ne_zero hne hlen.le
  | hzero block tail hne hlen ih =>
    rw [stuffBytes_zero hne hlen]
    exact List.forall_mem_append.mpr ⟨stuffBlock_ne_zero hne hlen.le, ih⟩
  | hfull block tail hne hlen ih =>
    rw [stuffBytes_full hne hlen]
    exact List.forall_mem_append.mpr ⟨stuffBlock_ne_zero hne hlen.le, ih⟩

@[simp] theorem stuffBlock_length (block : List Byte) :
    (stuffBlock block).length = block.length + 1 := rfl

/-- The code byte of a block that ends at a zero stands in the place of the zero; only the last block
and the full ones add a byte. -/
theorem stuffBytes_length (p : List Byte) : p.length + 1 ≤ (stuffBytes p).length ∧
    (stuffBytes p).length ≤ p.length + 1 + p.length / 254 := by
  induction p using payload_induction with
  | hlast block hne hlen => rw [stuffBytes_last hne hlen, stuffBlock_length]; omega
  | hzero block tail hne hlen ih =>
    rw [stuffBytes_zero hne hlen, List.length_append, List.length_append, List.length_cons,
      stuffBlock_length]
    omega
  | hfull block tail hne hlen ih =>
    rw [stuffBytes_full hne hlen, List.length_append, List.length_append, stuffBlock_length]
    omega

theorem stuffBytes_ne_nil (p : List Byte) : stuffBytes p ≠ [] :=
  List.ne_nil_of_length_pos (Nat.lt_of_lt_of_le p.length.succ_pos (stuffBytes_length p).1)

/-! ### `UNSTUFF`, block by block (R219) -/

/-- The payload after a block, with the `00` in front that the block before it asks for. -/
def afterBlock (zeroNext : Bool) (out : List Byte) : List Byte :=
  if zeroNext then 0x00 :: out else out

/-- A code byte opens a block of one byte less than it counts. -/
theorem unstuffLoop_code (hcode : code ≠ 0x00) (zeroNext : Bool) :
    unstuffLoop (code :: rest) 0 zeroNext =
      (unstuffLoop rest (code.toNat - 1) (code != 0xFF)).map (afterBlock zeroNext) := by
  rw [unstuffLoop, if_neg hcode]
  cases unstuffLoop rest (code.toNat - 1) (code != 0xFF) with
  | none => rfl
  | some out => rfl

theorem unstuffLoop_copy (b : Byte) (k : Nat) (zeroNext : Bool) :
    unstuffLoop (b :: rest) (k + 1) zeroNext = (unstuffLoop rest k zeroNext).map (b :: ·) := by
  rw [unstuffLoop]
  cases unstuffLoop rest k zeroNext with
  | none => rfl
  | some out => rfl

/-- The bytes of a block are copied. -/
theorem unstuffLoop_append (block tail : List Byte) (zeroNext : Bool) :
    unstuffLoop (block ++ tail) block.length zeroNext =
      (unstuffLoop tail 0 zeroNext).map (block ++ ·) := by
  induction block with
  | nil => simp
  | cons b bs ih => rw [List.cons_append, List.length_cons, unstuffLoop_copy, ih, Option.map_map]; rfl

/-- A block that runs past the end. -/
theorem unstuffLoop_of_short {k : Nat} (h : rest.length < k) (zeroNext : Bool) :
    unstuffLoop rest k zeroNext = none := by
  induction rest generalizing k with
  | nil =>
    cases k with
    | zero => exact absurd h (Nat.lt_irrefl 0)
    | succ k => rfl
  | cons b bs ih =>
    cases k with
    | zero => exact absurd h (Nat.not_lt_zero _)
    | succ k => rw [unstuffLoop_copy, ih (Nat.lt_of_succ_lt_succ h)]; rfl

theorem unstuffBytes_of_ne_nil (h : body ≠ []) : unstuffBytes body = unstuffLoop body 0 false := by
  rw [unstuffBytes, List.isEmpty_eq_false_iff.mpr h]
  rfl

/-- A body opens with a code byte; what stands after it is copied by the loop. -/
theorem unstuffBytes_code (hcode : code ≠ 0x00) :
    unstuffBytes (code :: rest) = unstuffLoop rest (code.toNat - 1) (code != 0xFF) := by
  rw [unstuffBytes_of_ne_nil (List.cons_ne_nil _ _), unstuffLoop_code hcode]
  exact Option.map_id'

/-- Between blocks the body goes on as a body of its own, after the `00` if there is one. -/
theorem unstuffLoop_next (h : ∀ v ∈ body, v ≠ 0x00) (hnil : body ≠ []) (zeroNext : Bool) :
    unstuffLoop body 0 zeroNext = (unstuffBytes body).map (afterBlock zeroNext) := by
  cases body with
  | nil => exact absurd rfl hnil
  | cons code rest =>
    have hcode : code ≠ 0x00 := h code (List.mem_cons_self ..)
    rw [unstuffLoop_code hcode, unstuffBytes_code hcode]

theorem unstuffBytes_of_short (hcode : code ≠ 0x00) (h : rest.length < code.toNat - 1) :
    unstuffBytes (code :: rest) = none := by
  rw [unstuffBytes_code hcode, unstuffLoop_of_short h]

theorem unstuffBytes_last (hcode : code ≠ 0x00) (h : rest.length = code.toNat - 1) :
    unstuffBytes (code :: rest) = some rest := by
  have hcopy := unstuffLoop_append rest [] (code != 0xFF)
  rw [List.append_nil] at hcopy
  rw [unstuffBytes_code hcode, ← h, hcopy, unstuffLoop, Option.map_some, List.append_nil]

/-- A block with more of the body after it. -/
theorem unstuffBytes_append (hcode : code ≠ 0x00) (hlen : block.length = code.toNat - 1)
    (htail : ∀ v ∈ tail, v ≠ 0x00) (hnil : tail ≠ []) :
    unstuffBytes (code :: (block ++ tail)) =
      (unstuffBytes tail).map (fun out => block ++ afterBlock (code != 0xFF) out) := by
  rw [unstuffBytes_code hcode, ← hlen, unstuffLoop_append, unstuffLoop_next htail hnil, Option.map_map]
  rfl

/-- The `00` follows every block but a full one. -/
theorem bne_full_iff (code : Byte) : (code != 0xFF) = true ↔ code.toNat < 255 := by
  have hbound := code.isLt
  rw [bne_iff_ne, ne_eq, ← BitVec.toNat_inj]
  show ¬ code.toNat = 255 ↔ _
  omega

/-- A block of `STUFF` is read back, in front of the stuffed rest. -/
theorem unstuffBytes_stuffBlock_append (hlen : block.length ≤ 254) (tail : List Byte) :
    unstuffBytes (stuffBlock block ++ stuffBytes tail) = (unstuffBytes (stuffBytes tail)).map
      (fun out => block ++ afterBlock (decide (block.length < 254)) out) := by
  have hcount := toNat_blockCode hlen
  have hflag : (BitVec.ofNat 8 (block.length + 1) != 0xFF) = decide (block.length < 254) := by
    rw [Bool.eq_iff_iff, bne_full_iff, hcount, decide_eq_true_eq]
    omega
  rw [← hflag]
  exact unstuffBytes_append (blockCode_ne_zero hlen) (by omega) (stuffBytes_ne_zero tail)
    (stuffBytes_ne_nil tail)

/-- `UNSTUFF` of `STUFF` gives the payload back (R219). -/
theorem unstuffBytes_stuffBytes (p : List Byte) : unstuffBytes (stuffBytes p) = some p := by
  induction p using payload_induction with
  | hlast block hne hlen =>
    rw [stuffBytes_last hne hlen]
    exact unstuffBytes_last (blockCode_ne_zero hlen.le) (by rw [toNat_blockCode hlen.le]; rfl)
  | hzero block tail hne hlen ih =>
    rw [stuffBytes_zero hne hlen, unstuffBytes_stuffBlock_append hlen.le, ih, decide_eq_true hlen]
    rfl
  | hfull block tail hne hlen ih =>
    rw [stuffBytes_full hne hlen, unstuffBytes_stuffBlock_append hlen.le, ih, hlen]
    rfl

/-! ### The operations -/

/-- The check of an operand of `UNSTUFF` (R219). -/
theorem isBody_of_ne_zero (h : ∀ v ∈ body, v ≠ 0x00) : body.all (· != 0) = true :=
  List.all_eq_true.mpr fun v hv => bne_iff_ne.mpr (h v hv)

theorem execUnstuff_of_body (h : ∀ v ∈ body, v ≠ 0x00) (hp : unstuffBytes body = some p) :
    execUnstuff body s = .next (returning (.bytes p) s) := by
  rw [execUnstuff, isBody_of_ne_zero h, hp]
  rfl

theorem execUnstuff_of_none (h : ∀ v ∈ body, v ≠ 0x00) (hp : unstuffBytes body = none) :
    execUnstuff body s = raiseCondition .deserError s := by
  rw [execUnstuff, isBody_of_ne_zero h, hp]
  rfl

end Sys2Proof.Machine

open Sys2Proof Sys2Proof.Machine

/-- Settles O22: the three equations of a block, and three inductions over the blocks of a payload. -/
theorem stuffFollowsItsBlocks : Obligations.StuffFollowsItsBlocks := by
  refine fun s p => ⟨⟨_, rfl, rfl, stuffBytes_ne_zero p, (stuffBytes_length p).1,
    (stuffBytes_length p).2, execUnstuff_of_body (stuffBytes_ne_zero p) (unstuffBytes_stuffBytes p)⟩,
    fun block tail hne => ⟨fun hfull => ?_, fun hlen => ?_⟩⟩
  · rw [stuffBytes_full hne hfull, stuffBlock_of_full hfull, List.cons_append]
  · exact ⟨_, toNat_blockCode hlen.le, stuffBytes_zero hne hlen, stuffBytes_last hne hlen⟩

/-- Settles O23: the equations of a block that is short, the last, or followed by more of the body. -/
theorem unstuffFollowsItsBlocks : Obligations.UnstuffFollowsItsBlocks := by
  refine fun s body hne => ⟨fun p => execUnstuff_of_body hne, execUnstuff_of_none hne,
    fun hnil => by rw [hnil]; rfl, ?_⟩
  rintro code rest rfl
  obtain ⟨hcode, hrest⟩ := List.forall_mem_cons.mp hne
  refine ⟨unstuffBytes_of_short hcode, unstuffBytes_last hcode, fun hmore => ?_⟩
  have hblock : (rest.take (code.toNat - 1)).length = code.toNat - 1 :=
    List.length_take_of_le hmore.le
  have htail : ∀ v ∈ rest.drop (code.toNat - 1), v ≠ 0x00 :=
    fun v hv => hrest v (List.mem_of_mem_drop hv)
  have hnil : rest.drop (code.toNat - 1) ≠ [] := by
    rw [ne_eq, List.drop_eq_nil_iff]; exact Nat.not_le.mpr hmore
  have happend := unstuffBytes_append hcode hblock htail hnil
  rw [List.take_append_drop] at happend
  simpa only [afterBlock, bne_full_iff] using happend

/-- Settles O24: by the two operations it is made of; a well-formed Message is serialised. -/
theorem encodeFrameIsStuffedPayload : Obligations.EncodeFrameIsStuffedPayload :=
  fun _ m h => ⟨serialize m, stuffBytes (serialize m), if_pos h, rfl, if_pos h⟩
end

section
/-! The accumulator (O25 to O27): `FEED` case by case, `FEED_ALL` as its loop, and a frame cut into
chunks (R226 to R228). -/

-- One after another, as above.
set_option Elab.async false

namespace Sys2Proof.Machine

variable {s : State} {c : Config} {n : Nat} {acc input before rest body : List Byte}

/-! ### `FEED` (R226) -/

theorem bodyResult_of_ok {p : List Byte} {m : Message} (hp : unstuffBytes body = some p)
    (hm : deserialize n p = .ok m) : bodyResult n body = .ready m := by
  simp only [bodyResult, hp, hm]

theorem bodyResult_of_error (h : unstuffBytes body = none ∨
    ∃ p e, unstuffBytes body = some p ∧ deserialize n p = .error e) :
    bodyResult n body = .deserError := by
  rcases h with hp | ⟨p, e, hp, he⟩
  · simp only [bodyResult, hp]
  · simp only [bodyResult, hp, he]

/-- A whole body is a Message or an error, never a reason to wait. -/
theorem bodyResult_ne_needMore (n : Nat) (body : List Byte) : bodyResult n body ≠ .needMore := by
  unfold bodyResult
  split
  · exact fun h => nomatch h
  · split
    · exact fun h => nomatch h
    · exact fun h => nomatch h

theorem feedStep_nil (c : Config) (acc : List Byte) : feedStep c acc [] = ⟨acc, .needMore, []⟩ := rfl

/-- An input with a delimiter: the bytes before the first one close a body, if they fit. -/
theorem feedStep_delimiter (h : ∀ v ∈ before, v ≠ 0x00) (c : Config) (acc rest : List Byte) :
    feedStep c acc (before ++ 0x00 :: rest) =
      if acc.length + (before.length + 1) ≤ c.nRx then
        ⟨[], bodyResult c.signalLen (acc ++ before), rest⟩
      else ⟨[], .overFull, rest⟩ := by
  have hnil : (before ++ 0x00 :: rest).isEmpty = false := by simp
  have hsplit := (splitDelimiter_eq_some _ before rest).mpr ⟨rfl, h⟩
  simp only [feedStep, hnil, hsplit, Bool.false_eq_true, if_false]

/-- An input without a delimiter is appended, if it fits. -/
theorem feedStep_no_delimiter (hnil : input ≠ []) (h : ∀ v ∈ input, v ≠ 0x00) (c : Config)
    (acc : List Byte) :
    feedStep c acc input =
      if acc.length + input.length ≤ c.nRx then ⟨acc ++ input, .needMore, []⟩
      else ⟨[], .overFull, input.drop (c.nRx - acc.length)⟩ := by
  simp only [feedStep, List.isEmpty_eq_false_iff.mpr hnil, (splitDelimiter_eq_none _).mpr h,
    Bool.false_eq_true, if_false]

/-- `FEED` leaves what its step leaves, and nothing else. -/
theorem execFeed_of_feedStep {r : FeedResult} (h : feedStep s.cfg s.rxAcc input = ⟨acc, r, rest⟩) :
    execFeed input s = .next { s with rxAcc := acc, ret := .feed r rest } := by
  simp only [execFeed, h]
  rfl

/-! ### `FEED_ALL` (R227) -/

/-- A bound on the rounds of `FEED_ALL` before its closing one: each takes a byte of the input, but
the first may only empty an accumulator that is full. -/
def roundsBound (acc input : List Byte) : Nat := input.length + min acc.length 1

/-- A round that is not the last empties the accumulator and comes closer to the end. -/
theorem feedStep_progress (hc : 1 ≤ c.nRx) (h : (feedStep c acc input).result ≠ .needMore) :
    (feedStep c acc input).acc = [] ∧
      (feedStep c acc input).remaining.length < roundsBound acc input := by
  unfold roundsBound
  rcases feedStep_cases c acc input with ⟨-, e⟩ | ⟨before, rest, hi, -, -, e⟩ |
    ⟨before, rest, hi, -, -, e⟩ | ⟨-, -, -, e⟩ | ⟨-, -, hfull, e⟩ <;> rw [e] at h ⊢
  · exact absurd rfl h
  · refine ⟨rfl, ?_⟩
    simp only [hi, List.length_append, List.length_cons]
    omega
  · refine ⟨rfl, ?_⟩
    simp only [hi, List.length_append, List.length_cons]
    omega
  · exact absurd rfl h
  · refine ⟨rfl, ?_⟩
    rw [List.length_drop]
    omega

theorem feedRounds_of_needMore (h : (feedStep c acc input).result = .needMore) (k : Nat) :
    feedRounds c (k + 1) acc input = ([], (feedStep c acc input).acc) := by
  simp only [feedRounds, h]

theorem feedRounds_of_result (h : (feedStep c acc input).result ≠ .needMore) (k : Nat) :
    feedRounds c (k + 1) acc input =
      ((feedStep c acc input).result ::
          (feedRounds c k (feedStep c acc input).acc (feedStep c acc input).remaining).1,
        (feedRounds c k (feedStep c acc input).acc (feedStep c acc input).remaining).2) := by
  rw [feedRounds]
  split
  next he => exact absurd he h
  next => rfl

/-- Two bounds on the rounds that suffice give the same: neither cuts the loop (log 19). -/
theorem feedRounds_eq_of_bound (hc : 1 ≤ c.nRx) {j k : Nat} (hj : roundsBound acc input < j)
    (hk : roundsBound acc input < k) : feedRounds c j acc input = feedRounds c k acc input := by
  induction j generalizing k acc input with
  | zero => exact absurd hj (Nat.not_lt_zero _)
  | succ j ih =>
    obtain ⟨k, rfl⟩ : ∃ k', k = k' + 1 := ⟨k - 1, by omega⟩
    by_cases h : (feedStep c acc input).result = .needMore
    · rw [feedRounds_of_needMore h, feedRounds_of_needMore h]
    · obtain ⟨hacc, hless⟩ := feedStep_progress hc h
      have hbound : roundsBound (feedStep c acc input).acc (feedStep c acc input).remaining <
          roundsBound acc input := by rwa [hacc]
      rw [feedRounds_of_result h, feedRounds_of_result h,
        ih (k := k) (hbound.trans_le (by omega)) (hbound.trans_le (by omega))]

theorem roundsBound_lt (acc input : List Byte) : roundsBound acc input < input.length + 2 := by
  rw [roundsBound]
  omega

theorem feedAll_of_needMore (h : (feedStep c acc input).result = .needMore) :
    feedAll c acc input = ([], (feedStep c acc input).acc) := feedRounds_of_needMore h _

theorem feedAll_nil (c : Config) (acc : List Byte) : feedAll c acc [] = ([], acc) := rfl

/-- The loop of R227 goes on with the remaining input. -/
theorem feedAll_of_result (hc : 1 ≤ c.nRx) (h : (feedStep c acc input).result ≠ .needMore) :
    feedAll c acc input =
      ((feedStep c acc input).result ::
          (feedAll c (feedStep c acc input).acc (feedStep c acc input).remaining).1,
        (feedAll c (feedStep c acc input).acc (feedStep c acc input).remaining).2) := by
  obtain ⟨hacc, hless⟩ := feedStep_progress hc h
  have hbound : roundsBound (feedStep c acc input).acc (feedStep c acc input).remaining <
      input.length + 1 := by
    rw [hacc]
    exact hless.trans_le (Nat.le_of_lt_succ (roundsBound_lt acc input))
  rw [feedAll, feedRounds_of_result h, feedAll,
    feedRounds_eq_of_bound hc hbound (roundsBound_lt _ _)]

/-! ### Chunks (R228) -/

theorem feedChunks_cons (c : Config) (chunk : List Byte) (chunks : List (List Byte)) (acc : List Byte) :
    feedChunks c (chunk :: chunks) acc =
      ((feedAll c acc chunk).1 ++ (feedChunks c chunks (feedAll c acc chunk).2).1,
        (feedChunks c chunks (feedAll c acc chunk).2).2) := rfl

/-- Chunks with no byte change nothing. -/
theorem feedChunks_of_empty {chunks : List (List Byte)} (h : chunks.flatten = []) (c : Config)
    (acc : List Byte) : feedChunks c chunks acc = ([], acc) := by
  induction chunks with
  | nil => rfl
  | cons chunk chunks ih =>
    obtain ⟨rfl, hrest⟩ := List.append_eq_nil_iff.mp (List.flatten_cons ▸ h)
    rw [feedChunks_cons, feedAll_nil, ih hrest]
    rfl

/-- A chunk without a delimiter waits in the accumulator for the rest of the frame. -/
theorem feedAll_no_delimiter (h : ∀ v ∈ input, v ≠ 0x00) (hfit : acc.length + input.length ≤ c.nRx) :
    feedAll c acc input = ([], acc ++ input) := by
  by_cases hnil : input = []
  · rw [hnil, List.append_nil, feedAll_nil]
  · have hstep := feedStep_no_delimiter hnil h c acc
    rw [if_pos hfit] at hstep
    rw [feedAll_of_needMore (by rw [hstep]), hstep]

/-- A chunk that ends a frame gives the result of its body. -/
theorem feedAll_delimiter_last (h : ∀ v ∈ before, v ≠ 0x00)
    (hfit : acc.length + (before.length + 1) ≤ c.nRx) :
    feedAll c acc (before ++ [0x00]) = ([bodyResult c.signalLen (acc ++ before)], []) := by
  have hstep := feedStep_delimiter h c acc []
  rw [if_pos hfit] at hstep
  have hresult : (feedStep c acc (before ++ [0x00])).result ≠ .needMore := by
    rw [hstep]
    exact bodyResult_ne_needMore _ _
  rw [feedAll_of_result (by omega) hresult, hstep, feedAll_nil]

/-- The rest of a frame, in any chunks: the frame gives the result of its body, once, and nothing else. -/
theorem feedChunks_frame {chunks : List (List Byte)} (hbody : ∀ v ∈ body, v ≠ 0x00)
    (hfit : body.length + 1 ≤ c.nRx) (hacc : ∀ v ∈ acc, v ≠ 0x00)
    (h : acc ++ chunks.flatten = body ++ [0x00]) :
    feedChunks c chunks acc = ([bodyResult c.signalLen body], []) := by
  induction chunks generalizing acc with
  | nil =>
    rw [List.flatten_nil, List.append_nil] at h
    exact absurd rfl (hacc 0x00 (by simp [h]))
  | cons chunk chunks ih =>
    rw [List.flatten_cons] at h
    rw [feedChunks_cons]
    cases hs : splitDelimiter chunk with
    | none =>
      have hchunk := (splitDelimiter_eq_none chunk).mp hs
      have hlength := congrArg List.length h
      simp only [List.length_append, List.length_singleton] at hlength
      rw [feedAll_no_delimiter hchunk (by omega),
        ih (List.forall_mem_append.mpr ⟨hacc, hchunk⟩) (by rw [List.append_assoc, h])]
      rfl
    | some halves =>
      obtain ⟨before, rest⟩ := halves
      obtain ⟨rfl, hbefore⟩ := (splitDelimiter_eq_some ..).mp hs
      -- The first delimiter of the stream is the one that ends the frame.
      have hsplit : splitDelimiter (body ++ [0x00]) = some (acc ++ before, rest ++ chunks.flatten) :=
        (splitDelimiter_eq_some ..).mpr
          ⟨h.symm.trans (by simp), List.forall_mem_append.mpr ⟨hacc, hbefore⟩⟩
      rw [(splitDelimiter_eq_some _ body []).mpr ⟨rfl, hbody⟩, Option.some.injEq, Prod.mk.injEq]
        at hsplit
      obtain ⟨rfl, hend⟩ := hsplit
      obtain ⟨rfl, hrest⟩ := List.append_eq_nil_iff.mp hend.symm
      rw [List.length_append] at hfit
      rw [feedAll_delimiter_last hbefore (by omega), feedChunks_of_empty hrest]
      rfl

/-- Without a delimiter a round ends in `OverFull` or waits. -/
theorem feedRounds_overFull (h : ∀ v ∈ input, v ≠ 0x00) (k : Nat) :
    ∀ r ∈ (feedRounds c k acc input).1, r = .overFull := by
  induction k generalizing acc input with
  | zero => exact fun r hr => nomatch hr
  | succ k ih =>
    by_cases hn : (feedStep c acc input).result = .needMore
    · rw [feedRounds_of_needMore hn]
      exact fun r hr => nomatch hr
    · have hnil : input ≠ [] := by
        rintro rfl
        exact hn rfl
      have hstep := feedStep_no_delimiter hnil h c acc
      split at hstep
      · exact absurd (congrArg FeedStep.result hstep) hn
      · rw [feedRounds_of_result hn, hstep]
        exact List.forall_mem_cons.mpr ⟨rfl, ih fun v hv => h v (List.mem_of_mem_drop hv)⟩

theorem feedChunks_overFull {chunks : List (List Byte)} (h : ∀ v ∈ chunks.flatten, v ≠ 0x00) :
    ∀ r ∈ (feedChunks c chunks acc).1, r = .overFull := by
  induction chunks generalizing acc with
  | nil => exact fun r hr => nomatch hr
  | cons chunk chunks ih =>
    rw [List.flatten_cons] at h
    obtain ⟨hchunk, hrest⟩ := List.forall_mem_append.mp h
    rw [feedChunks_cons]
    exact List.forall_mem_append.mpr ⟨feedRounds_overFull hchunk _, ih hrest⟩

/-- What the receiver makes of the body of a Message's frame. -/
theorem bodyResult_stuffBytes {m : Message} (h : m.wellFormed n = true) :
    bodyResult n (stuffBytes (serialize m)) = .ready m :=
  bodyResult_of_ok (unstuffBytes_stuffBytes _) (deserialize_serialize h)

end Sys2Proof.Machine

open Sys2Proof Sys2Proof.Machine

/-- Settles O25: with and without a delimiter, and whether it fits. -/
theorem feedCases : Obligations.FeedCases := by
  refine fun s input _ => ⟨?_, ?_, ?_, fun hnil hne hfit => ?_, fun hnil hne hover => ?_⟩
  · rintro rfl
    exact execFeed_of_feedStep (feedStep_nil ..)
  · rintro before rest rfl hne hfit
    have hstep := (feedStep_delimiter hne s.cfg s.rxAcc rest).trans (if_pos hfit)
    refine ⟨fun p m hp hm => ?_, fun herr => ?_⟩
    · exact execFeed_of_feedStep (bodyResult_of_ok hp hm ▸ hstep)
    · exact execFeed_of_feedStep (bodyResult_of_error herr ▸ hstep)
  · rintro before rest rfl hne hover
    exact execFeed_of_feedStep ((feedStep_delimiter hne ..).trans (if_neg (Nat.not_le.mpr hover)))
  · exact execFeed_of_feedStep ((feedStep_no_delimiter hnil hne ..).trans (if_pos hfit))
  · exact execFeed_of_feedStep ((feedStep_no_delimiter hnil hne ..).trans (if_neg (Nat.not_le.mpr hover)))

/-- Settles O26: the bound on the rounds is never reached, so the loop can be started anew. -/
theorem feedAllIsTheLoop : Obligations.FeedAllIsTheLoop :=
  fun c hc acc _ => ⟨feedAll_nil c acc, feedAll_of_needMore, feedAll_of_result hc,
    fun _ => ⟨rfl, rfl, rfl, fun _ => rfl⟩⟩

/-- Settles O27: by induction on the chunks, with the part of the frame that has come in. -/
theorem frameDeliveredOnceInAnyChunks : Obligations.FrameDeliveredOnceInAnyChunks := by
  refine fun c m hm => ⟨fun chunks hfit hframe => ?_, fun _ _ hne _ => feedChunks_overFull hne⟩
  rw [frameOf, List.length_append, List.length_singleton] at hfit
  rw [← bodyResult_stuffBytes hm]
  exact feedChunks_frame (stuffBytes_ne_zero _) hfit (by simp) hframe
end

section
/-! Single flight (O28): what `SEND` answers, and that a frame in flight is neither replaced nor ended by
anything but `H_TX_COMPLETE` (R230). -/

-- One after another, as above.
set_option Elab.async false

namespace Sys2Proof.Machine

variable {s t : State} {i : Instr} {frame : List Byte}

theorem execSend_of_busy (hf : frame.getLast? = some 0x00) (h : s.txBusy = true) :
    execSend frame s = raiseCondition .txBusy s :=
  (if_pos (beq_iff_eq.mpr hf)).trans (if_pos h)

theorem execSend_of_idle (hf : frame.getLast? = some 0x00) (h : s.txBusy = false) :
    execSend frame s = .next (returning .ok (startTransmit frame s)) :=
  (if_pos (beq_iff_eq.mpr hf)).trans (if_neg (Bool.eq_false_iff.mp h))

/-- While a frame is in flight nothing is written to `TX.BUF`: its two writers do not start. -/
theorem exec_txBuf_kept (h : exec i s = .next t) (hb : s.txBusy = true) : t.txBuf = s.txBuf := by
  by_contra hne
  obtain ⟨frame, rfl⟩ | rfl := exec_writers h .txBuf hne
  · obtain ⟨hf, -⟩ := (ifWellFormed_eq_next ..).mp h
    have hbusy := (execSend_of_busy (beq_iff_eq.mp hf) hb).symm.trans h
    exact hne (Host.Outcome.next.inj hbusy ▸ rfl)
  · have hbusy := (execTTransmit_of_busy hb).symm.trans h
    exact hne (Host.Outcome.next.inj hbusy ▸ rfl)

end Sys2Proof.Machine

open Sys2Proof Sys2Proof.Machine

/-- Settles O28: the two answers of `SEND`, and the writers of `TX.BUF` and `TX.BUSY`. -/
theorem sendIsSingleFlight : Obligations.SendIsSingleFlight := by
  refine fun s => ⟨fun frame hf => ⟨execSend_of_idle hf, execSend_of_busy hf⟩,
    fun i t h hb => ⟨exec_txBuf_kept h hb, fun hend => ?_⟩⟩
  by_contra hi
  exact nomatch hend.symm.trans (exec_txBusy_kept h hi hb)
end
